-- ==== Sys2Proof/Word.lean ====
section
/-! DEFINITION. The two word types of the engine: bytes (`u8`) and 16-bit words (`u16`), 00_scope.md section 5.1. -/

namespace Sys2Proof

/-- `u8`: a byte of a packet, an 8-bit register (00_scope.md section 5.1). -/
abbrev Byte := BitVec 8

/-- `u16`: a 16-bit register, a length, a checksum (00_scope.md section 5.1). -/
abbrev Word := BitVec 16

end Sys2Proof
end

