-- ==== Sys2Proof/Machine/Bytes.lean ====
section
/-! DEFINITION. Byte order and substrings: `lo8`, `hi8`, `le16` and `x[a..b]` (00_scope.md section 5, R43, R44). -/

namespace Sys2Proof.Machine

/-- `lo8(v) = v[7:0]` (00_scope.md section 5.1). -/
def lo8 (v : Word) : Byte := v.setWidth 8
/-- `hi8(v) = v[15:8]` (00_scope.md section 5.1). -/
def hi8 (v : Word) : Byte := (v >>> 8).setWidth 8
/-- `le16(b0, b1)`: `b0` is the byte at the lower offset (00_scope.md section 5.1, R43). -/
def le16 (b0 b1 : Byte) : Word := b0.setWidth 16 ||| (b1.setWidth 16 <<< 8)

/-- The bytes of `x` at offsets `a` to `e - 1`: `x[a .. e−1]` of 00_scope.md section 5.2, empty when `e ≤ a`. -/
def between (x : List Byte) (a e : Nat) : List Byte := (x.take e).drop a

/-- `x[i]`; no rule reads at or beyond the length (00_scope.md section 5.2), where this gives 0. -/
def byteAt (x : List Byte) (i : Nat) : Byte := x.getD i 0#8

/-- `MemRead(x + i, 2)` (R44). -/
def wordAt (x : List Byte) (i : Nat) : Word := le16 (byteAt x i) (byteAt x (i + 1))

end Sys2Proof.Machine
end

