-- ==== Sys2Proof/Config.lean ====
section
/-! DEFINITION. The implementation parameters (R5), the constraints on them (R6), the capacities that follow (R7), and the free value of the model. -/

namespace Sys2Proof

/-- The parameters of 00_scope.md R5 that are not fixed constants of the wire format (those are in Machine/Constants.lean). -/
structure Config where
  /-- INSTR_PING -/
  instrPing : Byte
  /-- INSTR_READ -/
  instrRead : Byte
  /-- INSTR_WRITE -/
  instrWrite : Byte
  /-- CRC_SEED -/
  crcSeed : Word
  /-- CRC_TABLE: 256 entries (R47, R97) -/
  crcTable : List Word
  /-- CRC_FIRST: the first checksummed offset -/
  crcFirst : Nat
  /-- PING_REPLY_EXTRA -/
  pingReplyExtra : Nat
  /-- DEFAULT_TIMEOUT_MS -/
  defaultTimeout : Word
  /-- MAX_PARAMS: capacity of PBUF -/
  maxParams : Nat
  /-- MAX_READ: capacity of RBUF -/
  maxRead : Nat
  deriving DecidableEq, Repr

/-- The constraints the parameters obey (R6), and that the table has its 256 entries (R97). 0x55 is INSTR_STATUS. -/
def Config.wf (c : Config) : Bool :=
  decide (4 ≤ c.maxParams) && decide (c.maxParams ≤ 65532) &&
  decide (c.pingReplyExtra ≤ c.maxRead) && decide (c.maxRead ≤ 65524) &&
  decide (c.crcFirst ≤ 7) && decide (c.crcTable.length = 256) &&
  decide ([c.instrPing, c.instrRead, c.instrWrite, 0x55#8].Nodup) &&
  [c.instrPing, c.instrRead, c.instrWrite].all fun b => b != 0xFF#8 && b != 0xFD#8

/-- Capacity of RAW (R7). -/
def Config.rawCap (c : Config) : Nat := 8 + c.maxParams
/-- Capacity of WIRE (R7). -/
def Config.wireCap (c : Config) : Nat := 15 + 2 * c.maxParams
/-- Capacity of RXB (R7). -/
def Config.rxCap (c : Config) : Nat := 11 + c.maxRead
/-- Capacity of UNS (R23). -/
def Config.unsCap (c : Config) : Nat := 6 + c.maxRead

/-- FREE VALUE (log 4): what cell `i` of PBUF holds after reset number `era` until the host writes it (R20, U3). No body: nothing can be proved about it. -/
opaque Config.pbufPowerUp : Nat → Nat → Byte

end Sys2Proof
end

