-- ==== Sys2Proof/Machine/Defaults.lean ====
section
/-! DEFINITION. The default parameter values of R5: the checksum table of R97, entry by entry as 40_crc.md section 4 prints it, and the default configuration. -/

namespace Sys2Proof.Machine

/-- CRC_TABLE entries 0x00 to 0x0F (R97). -/
def crcRow0 : List Word :=
  [0x0000#16, 0x8005#16, 0x800F#16, 0x000A#16, 0x801B#16, 0x001E#16, 0x0014#16, 0x8011#16,
   0x8033#16, 0x0036#16, 0x003C#16, 0x8039#16, 0x0028#16, 0x802D#16, 0x8027#16, 0x0022#16]

/-- CRC_TABLE entries 0x10 to 0x1F (R97). -/
def crcRow1 : List Word :=
  [0x8063#16, 0x0066#16, 0x006C#16, 0x8069#16, 0x0078#16, 0x807D#16, 0x8077#16, 0x0072#16,
   0x0050#16, 0x8055#16, 0x805F#16, 0x005A#16, 0x804B#16, 0x004E#16, 0x0044#16, 0x8041#16]

/-- CRC_TABLE entries 0x20 to 0x2F (R97). -/
def crcRow2 : List Word :=
  [0x80C3#16, 0x00C6#16, 0x00CC#16, 0x80C9#16, 0x00D8#16, 0x80DD#16, 0x80D7#16, 0x00D2#16,
   0x00F0#16, 0x80F5#16, 0x80FF#16, 0x00FA#16, 0x80EB#16, 0x00EE#16, 0x00E4#16, 0x80E1#16]

/-- CRC_TABLE entries 0x30 to 0x3F (R97). -/
def crcRow3 : List Word :=
  [0x00A0#16, 0x80A5#16, 0x80AF#16, 0x00AA#16, 0x80BB#16, 0x00BE#16, 0x00B4#16, 0x80B1#16,
   0x8093#16, 0x0096#16, 0x009C#16, 0x8099#16, 0x0088#16, 0x808D#16, 0x8087#16, 0x0082#16]

/-- CRC_TABLE entries 0x40 to 0x4F (R97). -/
def crcRow4 : List Word :=
  [0x8183#16, 0x0186#16, 0x018C#16, 0x8189#16, 0x0198#16, 0x819D#16, 0x8197#16, 0x0192#16,
   0x01B0#16, 0x81B5#16, 0x81BF#16, 0x01BA#16, 0x81AB#16, 0x01AE#16, 0x01A4#16, 0x81A1#16]

/-- CRC_TABLE entries 0x50 to 0x5F (R97). -/
def crcRow5 : List Word :=
  [0x01E0#16, 0x81E5#16, 0x81EF#16, 0x01EA#16, 0x81FB#16, 0x01FE#16, 0x01F4#16, 0x81F1#16,
   0x81D3#16, 0x01D6#16, 0x01DC#16, 0x81D9#16, 0x01C8#16, 0x81CD#16, 0x81C7#16, 0x01C2#16]

/-- CRC_TABLE entries 0x60 to 0x6F (R97). -/
def crcRow6 : List Word :=
  [0x0140#16, 0x8145#16, 0x814F#16, 0x014A#16, 0x815B#16, 0x015E#16, 0x0154#16, 0x8151#16,
   0x8173#16, 0x0176#16, 0x017C#16, 0x8179#16, 0x0168#16, 0x816D#16, 0x8167#16, 0x0162#16]

/-- CRC_TABLE entries 0x70 to 0x7F (R97). -/
def crcRow7 : List Word :=
  [0x8123#16, 0x0126#16, 0x012C#16, 0x8129#16, 0x0138#16, 0x813D#16, 0x8137#16, 0x0132#16,
   0x0110#16, 0x8115#16, 0x811F#16, 0x011A#16, 0x810B#16, 0x010E#16, 0x0104#16, 0x8101#16]

/-- CRC_TABLE entries 0x80 to 0x8F (R97). -/
def crcRow8 : List Word :=
  [0x8303#16, 0x0306#16, 0x030C#16, 0x8309#16, 0x0318#16, 0x831D#16, 0x8317#16, 0x0312#16,
   0x0330#16, 0x8335#16, 0x833F#16, 0x033A#16, 0x832B#16, 0x032E#16, 0x0324#16, 0x8321#16]

/-- CRC_TABLE entries 0x90 to 0x9F (R97). -/
def crcRow9 : List Word :=
  [0x0360#16, 0x8365#16, 0x836F#16, 0x036A#16, 0x837B#16, 0x037E#16, 0x0374#16, 0x8371#16,
   0x8353#16, 0x0356#16, 0x035C#16, 0x8359#16, 0x0348#16, 0x834D#16, 0x8347#16, 0x0342#16]

/-- CRC_TABLE entries 0xA0 to 0xAF (R97). -/
def crcRow10 : List Word :=
  [0x03C0#16, 0x83C5#16, 0x83CF#16, 0x03CA#16, 0x83DB#16, 0x03DE#16, 0x03D4#16, 0x83D1#16,
   0x83F3#16, 0x03F6#16, 0x03FC#16, 0x83F9#16, 0x03E8#16, 0x83ED#16, 0x83E7#16, 0x03E2#16]

/-- CRC_TABLE entries 0xB0 to 0xBF (R97). -/
def crcRow11 : List Word :=
  [0x83A3#16, 0x03A6#16, 0x03AC#16, 0x83A9#16, 0x03B8#16, 0x83BD#16, 0x83B7#16, 0x03B2#16,
   0x0390#16, 0x8395#16, 0x839F#16, 0x039A#16, 0x838B#16, 0x038E#16, 0x0384#16, 0x8381#16]

/-- CRC_TABLE entries 0xC0 to 0xCF (R97). -/
def crcRow12 : List Word :=
  [0x0280#16, 0x8285#16, 0x828F#16, 0x028A#16, 0x829B#16, 0x029E#16, 0x0294#16, 0x8291#16,
   0x82B3#16, 0x02B6#16, 0x02BC#16, 0x82B9#16, 0x02A8#16, 0x82AD#16, 0x82A7#16, 0x02A2#16]

/-- CRC_TABLE entries 0xD0 to 0xDF (R97). -/
def crcRow13 : List Word :=
  [0x82E3#16, 0x02E6#16, 0x02EC#16, 0x82E9#16, 0x02F8#16, 0x82FD#16, 0x82F7#16, 0x02F2#16,
   0x02D0#16, 0x82D5#16, 0x82DF#16, 0x02DA#16, 0x82CB#16, 0x02CE#16, 0x02C4#16, 0x82C1#16]

/-- CRC_TABLE entries 0xE0 to 0xEF (R97). -/
def crcRow14 : List Word :=
  [0x8243#16, 0x0246#16, 0x024C#16, 0x8249#16, 0x0258#16, 0x825D#16, 0x8257#16, 0x0252#16,
   0x0270#16, 0x8275#16, 0x827F#16, 0x027A#16, 0x826B#16, 0x026E#16, 0x0264#16, 0x8261#16]

/-- CRC_TABLE entries 0xF0 to 0xFF (R97). -/
def crcRow15 : List Word :=
  [0x0220#16, 0x8225#16, 0x822F#16, 0x022A#16, 0x823B#16, 0x023E#16, 0x0234#16, 0x8231#16,
   0x8213#16, 0x0216#16, 0x021C#16, 0x8219#16, 0x0208#16, 0x820D#16, 0x8207#16, 0x0202#16]

/-- The default CRC_TABLE (R97; PRESUMED by the spec itself, log 17). -/
def defaultCrcTable : List Word :=
  crcRow0 ++ crcRow1 ++ crcRow2 ++ crcRow3 ++ crcRow4 ++ crcRow5 ++ crcRow6 ++ crcRow7 ++
  crcRow8 ++ crcRow9 ++ crcRow10 ++ crcRow11 ++ crcRow12 ++ crcRow13 ++ crcRow14 ++ crcRow15

/-- The default parameters of R5; MAX_PARAMS and MAX_READ are OPEN there and take the value 64 that 95_test_vectors.md section 6 uses (log 1). -/
def defaultConfig : Config where
  instrPing := 0x01#8
  instrRead := 0x02#8
  instrWrite := 0x03#8
  crcSeed := 0#16
  crcTable := defaultCrcTable
  crcFirst := 3
  pingReplyExtra := 3
  defaultTimeout := 50#16
  maxParams := 64
  maxRead := 64

end Sys2Proof.Machine
end

