-- ==== Sys2Proof/Machine/Constants.lean ====
section
/-! DEFINITION. The fixed constants of the wire format (R5). -/

namespace Sys2Proof.Machine

/-- MARK1 (R5). -/
def mark1 : Byte := 0xFF#8
/-- MARK2 (R5). -/
def mark2 : Byte := 0xFD#8
/-- RESERVED (R5). -/
def reserved : Byte := 0x00#8
/-- INSTR_STATUS (R5). -/
def instrStatus : Byte := 0x55#8
/-- ID_BROADCAST (R5). -/
def idBroadcast : Byte := 254#8
/-- REPLY_BASE_LEN (R5). -/
def replyBaseLen : Nat := 11

/-- The valid identifiers: 0 to 252 and the broadcast 254 (R5, R64). -/
def validId (id : Byte) : Bool := decide (id.toNat ≤ 252) || decide (id = idBroadcast)

end Sys2Proof.Machine
end

