-- ==== Sys2Proof/Syntax.lean ====
section
/-! DEFINITION. The instructions: one constructor per row of spec/opcode_table.json (R76). -/

namespace Sys2Proof

/-- The eight rows of the opcode table. A packet row is the eight header bytes of a packet at offsets 0 to 7 (R60, R76): its
fields are the header bytes that the row's mask leaves open. A command row is a CMD value (R74). -/
inductive Instr where
  /-- PING_PKT: `FF FF FD 00 id 03 00 INSTR_PING` (R66) -/
  | pingPkt (id : Byte)
  /-- READ_PKT: `FF FF FD 00 id lL lH INSTR_READ` (R67) -/
  | readPkt (id : Byte) (len : Word)
  /-- WRITE_PKT: `FF FF FD 00 id lL lH INSTR_WRITE` (R68) -/
  | writePkt (id : Byte) (len : Word)
  /-- STATUS_PKT: `FF FF FD 00 id lL lH 55` (R69) -/
  | statusPkt (id : Byte) (len : Word)
  /-- INIT: CMD <- 0x00 (R74) -/
  | init
  /-- PING: CMD <- 0x01 (R74) -/
  | ping
  /-- READ: CMD <- 0x02 (R74) -/
  | read
  /-- WRITE: CMD <- 0x03 (R74) -/
  | write
  deriving DecidableEq, Repr

/-- Where the bits of an instruction are met: a packet buffer or the CMD register (R76: formats IPKT and SPKT, HCMD). -/
inductive Port where
  | packet
  | command
  deriving DecidableEq, Repr

/-- The port of each instruction (the table's format column). -/
def Instr.port : Instr → Port
  | .pingPkt _ => .packet
  | .readPkt _ _ => .packet
  | .writePkt _ _ => .packet
  | .statusPkt _ _ => .packet
  | .init => .command
  | .ping => .command
  | .read => .command
  | .write => .command

/-- Why bits are no instruction. -/
inductive DecodeError where
  /-- fewer than eight header bytes, or no command byte -/
  | tooShort
  /-- bytes 0 to 2 are not FF FF FD (R60, R71b) -/
  | badMarker
  /-- byte 3 is not 00: outside every packet row's mask (R76) -/
  | badReserved
  /-- a PING header whose length field is not 3 (R66) -/
  | badPingLength
  /-- byte 7 is none of the four instruction codes (R65) -/
  | unknownInstr
  /-- a CMD value 0x04 to 0xFF (R74) -/
  | unknownOpcode
  deriving DecidableEq, Repr

end Sys2Proof
end

