-- ==== Sys2Proof/WellFormed.lean ====
section
/-! DEFINITION. Well-formed instructions: the values the spec allows in the open fields of each row. -/

namespace Sys2Proof

/-- The values the header fields of a packet can have (R64 to R69), under the capacities of the configuration:
an instruction packet addresses a valid id; a READ packet's length is 7, or 8 with one stuffed byte (R67); a WRITE packet's
length is `P + 3 + K` with `P ≤ MAX_PARAMS` and `K ≤ floor(P / 3)` (R68, R116); a status packet may carry any id (R64) and its
length counts at least instruction, error byte and checksum (R69). -/
def Instr.wellFormed (c : Config) : Instr → Bool
  | .pingPkt id => Machine.validId id
  | .readPkt id len => Machine.validId id && (len == 7#16 || len == 8#16)
  | .writePkt id len =>
      Machine.validId id && decide (3 ≤ len.toNat) && decide (len.toNat ≤ c.maxParams + 3 + c.maxParams / 3)
  | .statusPkt _ len => decide (4 ≤ len.toNat)
  | .init => true
  | .ping => true
  | .read => true
  | .write => true

end Sys2Proof
end

