-- ==== Sys2Proof/Decode.lean ====
section
/-! DEFINITION. The decoder, total on any bytes, then the encoder, both from the tables of 30_encoding.md (R60, R65, R74, R76). -/

namespace Sys2Proof

/-- The kind of packet whose eight header bytes are at the front of `bytes`, as the opcode table's masks and matches say (R76),
and the bytes after the header. The mask of every packet row covers bytes 0 to 3 and 7; PING's covers the length too. -/
def decodePacket (c : Config) (bytes : List Byte) : Except DecodeError (Instr × List Byte) :=
  match bytes with
  | b0 :: b1 :: b2 :: b3 :: id :: lL :: lH :: code :: rest =>
    if b0 ≠ Machine.mark1 ∨ b1 ≠ Machine.mark1 ∨ b2 ≠ Machine.mark2 then .error .badMarker
    else if b3 ≠ Machine.reserved then .error .badReserved
    else if code = c.instrPing then
      if Machine.le16 lL lH = 3#16 then .ok (.pingPkt id, rest) else .error .badPingLength
    else if code = c.instrRead then .ok (.readPkt id (Machine.le16 lL lH), rest)
    else if code = c.instrWrite then .ok (.writePkt id (Machine.le16 lL lH), rest)
    else if code = Machine.instrStatus then .ok (.statusPkt id (Machine.le16 lL lH), rest)
    else .error .unknownInstr
  | _ => .error .tooShort

/-- The command a CMD value names (R12, R74). -/
def decodeCommand (v : Byte) : Except DecodeError Instr :=
  if v = 0x00#8 then .ok .init
  else if v = 0x01#8 then .ok .ping
  else if v = 0x02#8 then .ok .read
  else if v = 0x03#8 then .ok .write
  else .error .unknownOpcode

/-- The instruction at the front of `bytes` as met at `port`, and the bytes after it. -/
def decode (c : Config) (port : Port) (bytes : List Byte) : Except DecodeError (Instr × List Byte) :=
  match port, bytes with
  | .packet, bs => decodePacket c bs
  | .command, v :: rest => (decodeCommand v).map fun i => (i, rest)
  | .command, [] => .error .tooShort

/-- The eight header bytes of a packet (R60, R122): marker, reserved, id, length low byte first, instruction code. -/
def packetHeader (id : Byte) (len : Word) (code : Byte) : List Byte :=
  [Machine.mark1, Machine.mark1, Machine.mark2, Machine.reserved, id, Machine.lo8 len, Machine.hi8 len, code]

/-- The bits of an instruction (R65 to R69, R74). -/
def encode (c : Config) : Instr → List Byte
  | .pingPkt id => packetHeader id 3#16 c.instrPing
  | .readPkt id len => packetHeader id len c.instrRead
  | .writePkt id len => packetHeader id len c.instrWrite
  | .statusPkt id len => packetHeader id len Machine.instrStatus
  | .init => [0x00#8]
  | .ping => [0x01#8]
  | .read => [0x02#8]
  | .write => [0x03#8]

/-- The `n` bytes of the number `w`, the least significant first. -/
def bytesLowFirst : Nat → Nat → List Byte
  | 0, _ => []
  | n + 1, w => BitVec.ofNat 8 w :: bytesLowFirst n (w / 256)

/-- The eight bytes of a row's number with the digits as the table prints them, offset 0 leftmost (R76). -/
def headerLeftmostFirst (nbits w : Nat) : List Byte :=
  (bytesLowFirst (nbits / 8) w).reverse ++ List.replicate (8 - nbits / 8) 0#8

/-- The eight bytes of a row's number with the byte at offset 0 in its lowest bits (the interface's numbering). -/
def headerLowFirst (nbits w : Nat) : List Byte :=
  bytesLowFirst (nbits / 8) w ++ List.replicate (8 - nbits / 8) 0#8

/-- A packet header out of a table number: the table prints offset 0 leftmost (R76), the interface counts it lowest. At most one
of the two readings is a packet header (`headerReadings_exclude`), and that one is taken (log 10). -/
def tableHeader (nbits w : Nat) : List Byte :=
  match decodePacket Machine.defaultConfig (headerLeftmostFirst nbits w) with
  | .ok _ => headerLeftmostFirst nbits w
  | .error _ => headerLowFirst nbits w

/-- The instruction the decoder reads from the `nbits` bits of a table row: a CMD byte when the row has 8 bits, else a packet header. -/
def decodeTableWord (nbits w : Nat) : Option Instr :=
  if nbits ≤ 8 then
    match decode Machine.defaultConfig .command [BitVec.ofNat 8 w] with
    | .ok (i, _) => some i
    | .error _ => none
  else
    match decode Machine.defaultConfig .packet (tableHeader nbits w) with
    | .ok (i, _) => some i
    | .error _ => none

end Sys2Proof
end

