-- ==== Sys2Proof/Machine/Crc.lean ====
section
/-! DEFINITION. The Checksum Engine: one byte, a byte range, appending and verifying (40_crc.md). -/

namespace Sys2Proof.Machine

/-- The table index `((seed >> 8) ^ byte) & 0xFF` (R91). -/
def crcIndex (seed : Word) (b : Byte) : Nat := (((seed >>> 8) ^^^ b.setWidth 16) &&& 0x00FF#16).toNat

/-- `crc_step(seed, b)` (R91): the shift drops the high byte of the seed. -/
def crcStep (table : List Word) (seed : Word) (b : Byte) : Word :=
  (seed <<< 8) ^^^ table.getD (crcIndex seed b) 0#16

/-- `crc(seed, data)` (R92), bytes in increasing offset order. -/
def crc (table : List Word) (seed : Word) (data : List Byte) : Word := data.foldl (crcStep table) seed

/-- The checksum of bytes `CRC_FIRST .. e − 1` of a packet (R63, R94, R95). -/
def packetCrc (c : Config) (pkt : List Byte) (e : Nat) : Word := crc c.crcTable c.crcSeed (between pkt c.crcFirst e)

/-- `crc_append(pkt)` (R94): low byte first, then high byte. -/
def crcAppend (c : Config) (pkt : List Byte) : List Byte :=
  pkt ++ [lo8 (packetCrc c pkt pkt.length), hi8 (packetCrc c pkt pkt.length)]

/-- `crc_verify(rx)` (R95), on the bytes as received. -/
def crcVerify (c : Config) (rx : List Byte) : Bool :=
  packetCrc c rx (rx.length - 2) == wordAt rx (rx.length - 2)

end Sys2Proof.Machine
end

