-- ==== Sys2Proof/Machine/ScanStates.lean ====
section
/-! DEFINITION. The scan states SM and UM of the stuffer and the unstuffer (R24). -/

namespace Sys2Proof.Machine

/-- SM: how many consecutive MARK1 bytes have just been seen, capped at 2 (R24). -/
inductive StuffScan where
  | zero
  | one
  | two
  deriving DecidableEq, Repr

/-- UM: as SM, and `marker` (the value 3) when MARK1 MARK1 MARK2 have just been seen (R24). -/
inductive UnstuffScan where
  | zero
  | one
  | two
  | marker
  deriving DecidableEq, Repr

end Sys2Proof.Machine
end

