-- ==== Sys2Proof/Machine/State.lean ====
section
/-! DEFINITION. The state of the engine (10_state.md), as plain data, and the state after reset (R31). -/

namespace Sys2Proof.Machine

/-- PHASE (R13): IDLE and the seven steps of a command, in the order of their codes 0 to 7. -/
inductive Phase where
  | idle
  | build
  | stuff
  | checksum
  | transmit
  | receive
  | verify
  | parse
  deriving DecidableEq, Repr

/-- RES_STATUS (R180). The values 5 to 7 are never written and have no constructor (log 22). -/
inductive Status where
  | ok
  | transport
  | framing
  | checksum
  | rejected
  deriving DecidableEq, Repr

/-- RES_CAUSE (R181), in the order of the codes 0 to 14. The value 15 is never written and has no constructor (log 22). -/
inductive Cause where
  | none
  | txFail
  | rxFail
  | badMarker
  | badLength
  | badCrc
  | badInstr
  | shortPayload
  | rejNoHandle
  | rejBadId
  | rejPlenOverflow
  | rejCountOverflow
  | rejLenOverflow
  | rejBadOpcode
  | rejHandleBound
  deriving DecidableEq, Repr

/-- CTX_OP (R23): 1 PING, 2 READ, 3 WRITE; `none` is the 0 that an accept leaves before the opcode is known (R144). -/
inductive Op where
  | none
  | ping
  | read
  | write
  deriving DecidableEq, Repr

/-- A sparse byte store: (index, byte) pairs with strictly rising indexes, one for each cell written since reset (R20, R40). -/
abbrev Memory := List Host.Cell

/-- The Transaction Context (R23 to R25). RAW_LEN, WIRE_LEN, RXB_LEN and UNS_LEN are the lengths of the lists (log 23). -/
structure Ctx where
  /-- CTX_OP -/
  op : Op
  /-- CTX_ID -/
  id : Byte
  /-- CTX_P -/
  p : Word
  /-- CTX_ADDR -/
  addr : Word
  /-- CTX_N -/
  n : Word
  /-- EXP_LEN -/
  expLen : Word
  /-- RAW -/
  raw : List Byte
  /-- WIRE -/
  wire : List Byte
  /-- K -/
  k : Word
  /-- CRC -/
  crc : Word
  /-- RXB -/
  rxb : List Byte
  /-- UNS -/
  uns : List Byte
  /-- SM (R24) -/
  sm : StuffScan
  /-- UM (R24) -/
  um : UnstuffScan
  /-- XPEND (R25) -/
  xpend : Bool
  deriving DecidableEq, Repr

/-- The context as an accept leaves it: "every scalar 0, every buffer length 0, XPEND = 0, SM = 0, UM = 0" (R144). -/
def Ctx.cleared : Ctx where
  op := .none
  id := 0#8
  p := 0#16
  addr := 0#16
  n := 0#16
  expLen := 0#16
  raw := []
  wire := []
  k := 0#16
  crc := 0#16
  rxb := []
  uns := []
  sm := .zero
  um := .zero
  xpend := false

/-- A request at the transport port (R141, R142). -/
inductive Request where
  /-- `transmit(data, timeout_ms)` -/
  | transmit (data : List Byte) (timeout : Word)
  /-- `receive(expected_len, timeout_ms)` -/
  | receive (expectedLen timeout : Word)
  deriving DecidableEq, Repr

/-- What an agent does next (R140, R194, R210): the moves of the host, the transport, the platform, and the engine's turn. -/
inductive Move where
  /-- the engine takes its step, if it has one (R140) -/
  | engine
  /-- the host writes a register (R11, R26) -/
  | hostWrite (reg : Nat) (value : Word)
  /-- the host reads a register (R11, R26) -/
  | hostRead (reg : Nat)
  /-- the transport answers a transmit request (R141) -/
  | txAnswer (tstat : Byte)
  /-- the transport answers a receive request (R142) -/
  | rxAnswer (tstat : Byte) (data : List Byte)
  /-- the platform resets the engine (R210) -/
  | reset
  deriving DecidableEq, Repr

/-- The state of the engine: what 10_state.md names, and five fields of the model's own (INVENTORY.md, section State). -/
structure State where
  /-- the parameters (R5), never written (log 1) -/
  cfg : Config
  /-- STAT.BUSY (R15) -/
  busy : Bool
  /-- STAT.HVALID (R16) -/
  hvalid : Bool
  /-- STAT.RES_VALID (R22) -/
  resValid : Bool
  /-- STAT.HOSTERR (R17) -/
  hosterr : Bool
  /-- PHASE (R13) -/
  phase : Phase
  /-- DEV_ID (R16) -/
  devId : Byte
  /-- TXTO (R18) -/
  txto : Word
  /-- RXTO (R18) -/
  rxto : Word
  /-- ARG_ID (R19) -/
  argId : Byte
  /-- ARG_ADDR (R19) -/
  argAddr : Word
  /-- ARG_COUNT (R19) -/
  argCount : Word
  /-- ARG_PLEN (R19) -/
  argPlen : Word
  /-- RES_STATUS (R21) -/
  resStatus : Status
  /-- RES_CAUSE (R21) -/
  resCause : Cause
  /-- RES_TSTAT (R21) -/
  resTstat : Byte
  /-- RES_ID, behind the gate (R22) -/
  resId : Byte
  /-- RES_ERR, behind the gate (R22) -/
  resErr : Byte
  /-- RES_PLEN, behind the gate (R22) -/
  resPlen : Word
  /-- RBUF, behind the gate (R22): the cells written so far, from cell 0 -/
  rbuf : List Byte
  /-- PBUF (R20): the cells the host has written since reset -/
  pbuf : Memory
  /-- the Transaction Context (R23) -/
  ctx : Ctx
  /-- the model's own: which reset this is, for the free PBUF contents (log 4) -/
  era : Nat
  /-- the model's own: the moves the agents are about to make (log 2) -/
  script : List Move
  /-- the model's own: the requests this command has handed to the transport, oldest first (log 6) -/
  issued : List Request
  /-- the model's own: the word the last host read returned (log 5) -/
  rdata : Word
  deriving DecidableEq, Repr

/-- The state reset number `era` leaves, for an engine with parameters `c` and agents about to make the moves `script`
(R31, R211; values that R31 leaves unspecified are those of log 3). -/
def State.afterReset (c : Config) (era : Nat) (script : List Move) : State where
  cfg := c
  busy := false
  hvalid := false
  resValid := false
  hosterr := false
  phase := .idle
  devId := 0x00#8
  txto := c.defaultTimeout
  rxto := c.defaultTimeout
  argId := 0x00#8
  argAddr := 0#16
  argCount := 0#16
  argPlen := 0#16
  resStatus := .ok
  resCause := .none
  resTstat := 0x00#8
  resId := 0x00#8
  resErr := 0x00#8
  resPlen := 0#16
  rbuf := []
  pbuf := []
  ctx := Ctx.cleared
  era := era
  script := script
  issued := []
  rdata := 0#16

/-- The machine right after reset, with the default parameters and nothing about to happen (R31; log 1). -/
def State.reset : State := State.afterReset defaultConfig 0 []

/-- Why the machine stops. Both are safe: the model stops where the spec describes nothing (log 12, log 15). -/
inductive Fault where
  /-- raised by the transport's receive answer: success with other than EXP_LEN bytes, which the contract of R142 rules out; safe -/
  | transportContract
  /-- raised by the engine in phase BUILD with CTX_OP = 0, which no command leaves (R148, R152) and no run reaches; safe -/
  | noOperation
  deriving DecidableEq, Repr

/-- Why an instruction has no meaning. -/
inductive Refusal where
  /-- raised by exec's arm for an instruction without a meaning yet; safe -/
  | notModelled (mnemonic : String)
  deriving DecidableEq, Repr

/-- The outcomes of a step of this machine. -/
abbrev Result := Host.Outcome State Fault Refusal

end Sys2Proof.Machine
end

