-- ==== Sys2Proof/Machine/Stuffer.lean ====
section
/-! DEFINITION. The byte stuffer and unstuffer as byte-serial machines with their scan states (41_stuffing.md). -/

namespace Sys2Proof.Machine

/-- `min(SM + 1, 2)` (R101). -/
def StuffScan.bump : StuffScan → StuffScan
  | .zero => .one
  | .one => .two
  | .two => .two

/-- The stuffer on one byte: the bytes emitted and the next SM (the table of R101). -/
def stuffByte (sm : StuffScan) (b : Byte) : List Byte × StuffScan :=
  if sm = .two ∧ b = mark2 then ([b, mark2], .zero)
  else if b = mark1 then ([b], sm.bump)
  else ([b], .zero)

/-- The stuffer on a chunk, from the scan state the bytes before it left (R101, R107). -/
def stuffFrom : StuffScan → List Byte → List Byte × StuffScan
  | sm, [] => ([], sm)
  | sm, b :: x =>
    ((stuffByte sm b).1 ++ (stuffFrom (stuffByte sm b).2 x).1, (stuffFrom (stuffByte sm b).2 x).2)

/-- `stuff(x)` (R101): SM = 0 at the first byte of the region. -/
def stuff (x : List Byte) : List Byte := (stuffFrom .zero x).1

/-- The unstuffer's next UM after a MARK1 byte: 1 from 3, else `min(UM + 1, 2)` (R103). -/
def UnstuffScan.bump : UnstuffScan → UnstuffScan
  | .zero => .one
  | .one => .two
  | .two => .two
  | .marker => .one

/-- The unstuffer on one byte: the bytes emitted and the next UM (the table of R103). -/
def unstuffByte (um : UnstuffScan) (b : Byte) : List Byte × UnstuffScan :=
  if um = .marker ∧ b = mark2 then ([], .zero)
  else if um = .two ∧ b = mark2 then ([b], .marker)
  else if b = mark1 then ([b], um.bump)
  else ([b], .zero)

/-- The unstuffer on a chunk, from the scan state the bytes before it left (R103, R107). -/
def unstuffFrom : UnstuffScan → List Byte → List Byte × UnstuffScan
  | um, [] => ([], um)
  | um, b :: y =>
    ((unstuffByte um b).1 ++ (unstuffFrom (unstuffByte um b).2 y).1, (unstuffFrom (unstuffByte um b).2 y).2)

/-- `unstuff(y)` (R103): UM = 0 at the first byte of the region. -/
def unstuff (y : List Byte) : List Byte := (unstuffFrom .zero y).1

end Sys2Proof.Machine
end

