-- ==== Sys2Proof/Machine/Codec.lean ====
section
/-! DEFINITION. The Packet Codec: length arithmetic, packet construction, the wire form, the checks on a reply (42_framing.md). -/

namespace Sys2Proof.Machine

/-- `len_pre(P)` (R115). -/
def lenPre (p : Nat) : Nat := p + 3

/-- `len_post(P, K)` (R116). -/
def lenPost (p k : Nat) : Nat := p + 3 + k

/-- A raw packet with a given length field: the eight header bytes, then the parameters (R122). -/
def rawPacket (id : Byte) (len : Word) (code : Byte) (params : List Byte) : List Byte :=
  packetHeader id len code ++ params

/-- `build_raw(id, instr, params)` (R122). -/
def buildRaw (id code : Byte) (params : List Byte) : List Byte :=
  rawPacket id (BitVec.ofNat 16 (lenPre params.length)) code params

/-- `read_params(addr, count)` (R118). -/
def readParams (addr count : Word) : List Byte := [lo8 addr, hi8 addr, lo8 count, hi8 count]

/-- `build_ping(id)` (R119). -/
def buildPing (c : Config) (id : Byte) : List Byte := buildRaw id c.instrPing []

/-- `build_read(id, addr, count)` (R120). -/
def buildRead (c : Config) (id : Byte) (addr count : Word) : List Byte := buildRaw id c.instrRead (readParams addr count)

/-- `build_write(id, params)` (R121). -/
def buildWrite (c : Config) (id : Byte) (params : List Byte) : List Byte := buildRaw id c.instrWrite params

/-- The stuffer run over the region of a raw packet, offset 3 to the end, from SM = 0 (R100, R153). -/
def stuffRegion (raw : List Byte) : List Byte × StuffScan := stuffFrom .zero (raw.drop 3)

/-- K: how many bytes the stuffer inserts into a raw packet (R124, R153); the region of `raw` has `P + 5` bytes. -/
def insertedCount (raw : List Byte) : Nat := (stuffRegion raw).1.length - (raw.drop 3).length

/-- `pkt[5] <- lo8(L); pkt[6] <- hi8(L)` (R62, R124, R155). -/
def setLength (pkt : List Byte) (len : Nat) : List Byte :=
  (pkt.set 5 (lo8 (BitVec.ofNat 16 len))).set 6 (hi8 (BitVec.ofNat 16 len))

/-- The length field after stuffing, as a natural number (R116, R154). -/
def wireLen (raw : List Byte) : Nat := lenPost (raw.length - 8) (insertedCount raw)

/-- `finalize(raw)` (R124): the wire packet without checksum and K, or `none` for Overflow. -/
def finalize (raw : List Byte) : Option (List Byte × Nat) :=
  if wireLen raw > 65535 then none
  else some (setLength (raw.take 3 ++ (stuffRegion raw).1) (wireLen raw), insertedCount raw)

/-- `check_marker(rx)` (R125). -/
def checkMarker (rx : List Byte) : Bool :=
  byteAt rx 0 == mark1 && byteAt rx 1 == mark1 && byteAt rx 2 == mark2

/-- `check_length(rx)` (R126), the addition on natural numbers. -/
def checkLength (rx : List Byte) : Bool := decide ((wordAt rx 5).toNat + 7 = rx.length)

/-- The region of a reply, `rx[3 .. len(rx) − 3]` (R128). -/
def replyRegion (rx : List Byte) : List Byte := between rx 3 (rx.length - 2)

/-- `check_full` (R128, R171): unstuffing the region removed nothing, `len(uns) = received − 5`. -/
def checkFull (uns : List Byte) (received : Nat) : Bool := decide (uns.length + 5 = received)

/-- `check_instr(uns)` (R129). -/
def checkInstr (uns : List Byte) : Bool := byteAt uns 4 == instrStatus

/-- What an accepted reply hands to the host (R130). -/
structure Reply where
  id : Byte
  err : Byte
  payload : List Byte
  deriving DecidableEq, Repr

/-- `extract(uns, N)` (R130). -/
def extract (uns : List Byte) (n : Nat) : Reply where
  id := byteAt uns 1
  err := byteAt uns 5
  payload := between uns 6 (6 + n)

/-- N of each operation (R70, R131, R148). -/
def extraBytes (c : Config) (op : Op) (count : Word) : Word :=
  match op with
  | .none => 0#16
  | .ping => BitVec.ofNat 16 c.pingReplyExtra
  | .read => count
  | .write => 0#16

/-- `expected_len`: `REPLY_BASE_LEN + N` (R131, R148). -/
def expectedLen (n : Word) : Word := BitVec.ofNat 16 replyBaseLen + n

/-- `accept_status(rx, N)` (R132): the whole acceptance as one function. -/
def acceptStatus (c : Config) (rx : List Byte) (n : Nat) : Except Cause Reply :=
  if !checkMarker rx then .error .badMarker
  else if !checkLength rx then .error .badLength
  else if !crcVerify c rx then .error .badCrc
  else if !checkFull (unstuff (replyRegion rx)) rx.length then .error .shortPayload
  else if !checkInstr (unstuff (replyRegion rx)) then .error .badInstr
  else .ok (extract (unstuff (replyRegion rx)) n)

end Sys2Proof.Machine
end

