-- ==== Sys2Proof/Machine/Flags.lean ====
section
/-! DEFINITION. The flags (R14, R28): the STAT word, the gate of RES_VALID, HOSTERR, and the numbers of PHASE, RES_STATUS and RES_CAUSE. -/

namespace Sys2Proof.Machine

/-- STAT as the host reads it (R14): bit 0 BUSY, bit 1 HVALID, bit 2 RES_VALID, bit 3 HOSTERR, bits 7:4 zero. -/
def State.statWord (s : State) : Byte :=
  (if s.busy then 0x01#8 else 0#8) ||| (if s.hvalid then 0x02#8 else 0#8) |||
  (if s.resValid then 0x04#8 else 0#8) ||| (if s.hosterr then 0x08#8 else 0#8)

/-- A host write while BUSY = 1: discarded, HOSTERR <- 1 (R17, R189). -/
def State.hostError (s : State) : State := { s with hosterr := true }

/-- The gate of the result registers (R22): 0 unless RES_VALID = 1. -/
def State.gated (s : State) (w : Word) : Word := if s.resValid then w else 0#16

/-- The engine has a step of its own exactly when BUSY = 1 and XPEND = 0 (R140). -/
def State.engineEnabled (s : State) : Bool := s.busy && !s.ctx.xpend

/-- The codes of PHASE (R13). -/
def Phase.code : Phase → BitVec 3
  | .idle => 0#3
  | .build => 1#3
  | .stuff => 2#3
  | .checksum => 3#3
  | .transmit => 4#3
  | .receive => 5#3
  | .verify => 6#3
  | .parse => 7#3

/-- The codes of RES_STATUS (R180). -/
def Status.code : Status → BitVec 3
  | .ok => 0#3
  | .transport => 1#3
  | .framing => 2#3
  | .checksum => 3#3
  | .rejected => 4#3

/-- The codes of RES_CAUSE (R181). -/
def Cause.code : Cause → BitVec 4
  | .none => 0#4
  | .txFail => 1#4
  | .rxFail => 2#4
  | .badMarker => 3#4
  | .badLength => 4#4
  | .badCrc => 5#4
  | .badInstr => 6#4
  | .shortPayload => 7#4
  | .rejNoHandle => 8#4
  | .rejBadId => 9#4
  | .rejPlenOverflow => 10#4
  | .rejCountOverflow => 11#4
  | .rejLenOverflow => 12#4
  | .rejBadOpcode => 13#4
  | .rejHandleBound => 14#4

/-- The one status each cause belongs to (R181). -/
def Cause.status : Cause → Status
  | .none => .ok
  | .txFail => .transport
  | .rxFail => .transport
  | .badMarker => .framing
  | .badLength => .framing
  | .badCrc => .checksum
  | .badInstr => .framing
  | .shortPayload => .framing
  | .rejNoHandle => .rejected
  | .rejBadId => .rejected
  | .rejPlenOverflow => .rejected
  | .rejCountOverflow => .rejected
  | .rejLenOverflow => .rejected
  | .rejBadOpcode => .rejected
  | .rejHandleBound => .rejected

end Sys2Proof.Machine
end

