-- ==== Sys2Proof/Machine/Ops.lean ====
section
/-! DEFINITION. The shared operations: the PBUF store, the endings `raise` and `complete_ok`, the accept step, and the guards of a command and of an engine step. -/

namespace Sys2Proof.Machine

/-- The byte listed for index `a`, if any. -/
def Memory.read? (a : Nat) : Memory → Option Byte
  | [] => none
  | e :: m => if e.1 = a then some e.2 else Memory.read? a m

/-- Store `v` at index `a`, keeping the indexes strictly rising. -/
def Memory.write (a : Nat) (v : Byte) : Memory → Memory
  | [] => [(a, v)]
  | e :: m => if a < e.1 then (a, v) :: e :: m else if a = e.1 then (a, v) :: m else e :: Memory.write a v m

/-- The canonical form of a store of `size` cells: strictly rising indexes, all of them cells of the store (log 4). -/
abbrev Memory.wf (size : Nat) (m : Memory) : Prop :=
  m.Pairwise (fun a b => a.1 < b.1) ∧ ∀ e ∈ m, e.1 < size

/-- PBUF[i]: the byte the host wrote since reset, or the free power-up value of the cell (R20; log 4). -/
def State.pbufByte (s : State) (i : Nat) : Byte := (Memory.read? i s.pbuf).getD (Config.pbufPowerUp s.era i)

/-- PBUF[0 .. P − 1] (R121, R152). -/
def State.pbufBytes (s : State) (p : Nat) : List Byte := (List.range p).map s.pbufByte

/-- `raise S(c)` (R186): the common ending of every command that does not end with OK. RES_TSTAT is the caller's. -/
def State.raise (s : State) (c : Cause) : State :=
  { s with
    resStatus := c.status
    resCause := c
    resValid := false
    ctx := { s.ctx with xpend := false }
    busy := false
    phase := .idle }

/-- `complete_ok()` (R187), what both forms of it share; a reply's registers are the caller's (R175). -/
def State.completeOk (s : State) : State :=
  { s with
    resStatus := .ok
    resCause := .none
    ctx := { s.ctx with xpend := false }
    busy := false
    phase := .idle }

/-- Accept, common part (R144): what leaving the last ending does (R197). `issued` is the model's record of this command's requests (log 6). -/
def State.accept (s : State) : State :=
  { s with
    resStatus := .ok
    resCause := .none
    resTstat := 0x00#8
    resValid := false
    ctx := Ctx.cleared
    issued := [] }

/-- A command given by a write to CMD: while BUSY = 0 it is accepted and `f` decides it (R143, R144); while BUSY = 1 it is the
host error of R17. -/
def State.onCommand (s : State) (f : State → State) : State :=
  if s.busy then s.hostError else f s.accept

/-- Accept, success part (R148): the operands go into the Transaction Context and the command starts. -/
def State.start (s : State) (op : Op) (p addr n : Word) : State :=
  { s with
    ctx := { s.ctx with op := op, id := s.devId, p := p, addr := addr, n := n, expLen := expectedLen n }
    busy := true
    phase := .build }

/-- The engine's step in phase `ph` (R140, section 5 of 43_transactions.md): `f` when that step is the enabled one; otherwise no
such step exists and nothing changes (log 8). -/
def State.inPhase (s : State) (ph : Phase) (f : State → State) : State :=
  if s.engineEnabled && decide (s.phase = ph) then f s else s

end Sys2Proof.Machine
end

