-- ==== Sys2Proof/Machine/Operands.lean ====
section
/-! DEFINITION. Where each instruction takes its operands from: the operand registers of a command (R19, R148), the context and PBUF of an instruction packet (R118, R121, R152), the receive buffer of a status packet (R132). -/

namespace Sys2Proof.Machine

/-- The operands of PING (R148): none; N = PING_REPLY_EXTRA. -/
def State.startPing (s : State) : State := s.start .ping 0#16 0#16 (extraBytes s.cfg .ping 0#16)

/-- The operands of READ (R148): ARG_ADDR and ARG_COUNT; P = 4, N = ARG_COUNT. -/
def State.startRead (s : State) : State := s.start .read 4#16 s.argAddr (extraBytes s.cfg .read s.argCount)

/-- The operands of WRITE (R148): ARG_PLEN; N = 0. -/
def State.startWrite (s : State) : State := s.start .write s.argPlen 0#16 (extraBytes s.cfg .write 0#16)

/-- The parameters of a READ packet (R120): address and count out of the context. -/
def State.readOperands (s : State) : List Byte := readParams s.ctx.addr s.ctx.n

/-- The parameters of a WRITE packet with length field `len` before stuffing (R115, R121): the first `len − 3` bytes of PBUF. -/
def State.writeOperands (s : State) (len : Word) : List Byte := s.pbufBytes (len.toNat - 3)

/-- The received packet whose header is that of a status packet: the header, then the bytes of RXB after the header (R69, R132). -/
def State.receivedPacket (s : State) (id : Byte) (len : Word) : List Byte :=
  packetHeader id len instrStatus ++ s.ctx.rxb.drop 8

end Sys2Proof.Machine
end

