-- ==== Sys2Proof/Machine/Commands.lean ====
section
/-! DEFINITION. The meanings of the host commands: what a write of their opcode to CMD does (R143 to R151, R193). -/

namespace Sys2Proof.Machine

/-- INIT after the common accept (R145): bind the Device Handle, once. -/
def State.bindHandle (s : State) : State :=
  if s.hvalid then s.raise .rejHandleBound
  else if s.argId = 253#8 ∨ s.argId = 255#8 then s.raise .rejBadId
  else State.completeOk { s with devId := s.argId, hvalid := true }

/-- PING after the common accept (R147, R148, R149). -/
def State.acceptPing (s : State) : State :=
  if !s.hvalid then s.raise .rejNoHandle else s.startPing

/-- READ after the common accept (R147, R148, R150). -/
def State.acceptRead (s : State) : State :=
  if !s.hvalid then s.raise .rejNoHandle
  else if s.argCount.toNat > s.cfg.maxRead then s.raise .rejCountOverflow
  else s.startRead

/-- WRITE after the common accept (R147, R148, R151). -/
def State.acceptWrite (s : State) : State :=
  if !s.hvalid then s.raise .rejNoHandle
  else if s.argPlen.toNat > s.cfg.maxParams then s.raise .rejPlenOverflow
  else s.startWrite

/-- INIT (R145). -/
def execInit (s : State) : Result := .next (s.onCommand State.bindHandle)

/-- PING (R149). -/
def execPing (s : State) : Result := .next (s.onCommand State.acceptPing)

/-- READ (R150). -/
def execRead (s : State) : Result := .next (s.onCommand State.acceptRead)

/-- WRITE (R151). -/
def execWrite (s : State) : Result := .next (s.onCommand State.acceptWrite)

end Sys2Proof.Machine
end

