-- ==== Sys2Proof/Machine/Phases.lean ====
section
/-! DEFINITION. What the engine does in each phase of a command (43_transactions.md section 5). Each definition is the effect of the phase's step; `State.inPhase` and Engine.lean say when it is taken. -/

namespace Sys2Proof.Machine

/-- Phase 1, BUILD (R152): RAW holds the raw packet, phase 2 follows. -/
def State.built (s : State) (raw : List Byte) : State :=
  { s with ctx := { s.ctx with raw := raw }, phase := .stuff }

/-- Phase 2, STUFF (R153 to R155). K and SM are written before the length is tested (log 20). -/
def State.stuffStep (s : State) : State :=
  match finalize s.ctx.raw with
  | none =>
    State.raise { s with ctx := { s.ctx with k := BitVec.ofNat 16 (insertedCount s.ctx.raw), sm := (stuffRegion s.ctx.raw).2 } } .rejLenOverflow
  | some (wire, k) =>
    { s with
      ctx := { s.ctx with wire := wire, k := BitVec.ofNat 16 k, sm := (stuffRegion s.ctx.raw).2 }
      phase := .checksum }

/-- Phase 3, CHECKSUM (R156, R157). -/
def State.checksumStep (s : State) : State :=
  { s with
    ctx := { s.ctx with crc := packetCrc s.cfg s.ctx.wire s.ctx.wire.length, wire := crcAppend s.cfg s.ctx.wire }
    phase := .transmit }

/-- A request goes to the transport: XPEND <- 1 (R25, R158, R162). -/
def State.issue (s : State) (r : Request) : State :=
  { s with ctx := { s.ctx with xpend := true }, issued := s.issued ++ [r] }

/-- Phase 4, TRANSMIT, the issue step (R158). -/
def State.transmitStep (s : State) : State := s.issue (.transmit s.ctx.wire s.txto)

/-- Phase 5, RECEIVE, the issue step (R162). -/
def State.receiveStep (s : State) : State := s.issue (.receive s.ctx.expLen s.rxto)

/-- Phase 6, VERIFY (R167 to R170), on the received packet `rx`: marker, length, checksum, then unstuffing. -/
def State.verifyStep (s : State) (rx : List Byte) : State :=
  if !checkMarker rx then s.raise .badMarker
  else if !checkLength rx then s.raise .badLength
  else if !crcVerify s.cfg rx then
    State.raise { s with ctx := { s.ctx with crc := packetCrc s.cfg rx (rx.length - 2) } } .badCrc
  else
    { s with
      ctx := { s.ctx with
        crc := packetCrc s.cfg rx (rx.length - 2)
        uns := unstuff (replyRegion rx)
        um := (unstuffFrom .zero (replyRegion rx)).2 }
      phase := .parse }

/-- The result registers of an accepted reply (R175): cells of RBUF at and beyond N keep what they held (log 18). -/
def State.withReply (s : State) (r : Reply) : State :=
  { s with
    resId := r.id
    resErr := r.err
    resPlen := s.ctx.n
    rbuf := r.payload ++ s.rbuf.drop s.ctx.n.toNat
    resValid := true }

/-- Phase 7, PARSE (R171 to R175). -/
def State.parseStep (s : State) : State :=
  if !checkFull s.ctx.uns s.ctx.expLen.toNat then s.raise .shortPayload
  else if !checkInstr s.ctx.uns then s.raise .badInstr
  else (s.withReply (extract s.ctx.uns s.ctx.n.toNat)).completeOk

end Sys2Proof.Machine
end

