-- ==== Sys2Proof/Machine/Packets.lean ====
section
/-! DEFINITION. The meanings of the packet rows: the engine builds the three instruction packets (R119 to R121, R152) and accepts the status packet (R132). -/

namespace Sys2Proof.Machine

/-- PING_PKT (R119, R152): in phase BUILD, RAW <- build_ping(id). -/
def execPingPkt (id : Byte) (s : State) : Result :=
  .next (s.inPhase .build fun s => s.built (buildPing s.cfg id))

/-- READ_PKT (R120, R152): in phase BUILD, RAW <- the header and read_params(CTX_ADDR, CTX_N). -/
def execReadPkt (id : Byte) (len : Word) (s : State) : Result :=
  .next (s.inPhase .build fun s => s.built (rawPacket id len s.cfg.instrRead s.readOperands))

/-- WRITE_PKT (R121, R152): in phase BUILD, RAW <- the header and PBUF[0 .. P − 1], P = length − 3. -/
def execWritePkt (id : Byte) (len : Word) (s : State) : Result :=
  .next (s.inPhase .build fun s => s.built (rawPacket id len s.cfg.instrWrite (s.writeOperands len)))

/-- STATUS_PKT (R132): the packet in RXB is accepted, in two steps: VERIFY in phase 6 (R167 to R170), PARSE in phase 7 (R171 to R175). -/
def execStatusPkt (id : Byte) (len : Word) (s : State) : Result :=
  if s.phase = .parse then .next (s.inPhase .parse State.parseStep)
  else .next (s.inPhase .verify fun s => s.verifyStep (s.receivedPacket id len))

end Sys2Proof.Machine
end

