-- ==== Sys2Proof/Machine/Dispatch.lean ====
section
/-! DEFINITION. One arm for each instruction. -/

namespace Sys2Proof.Machine

def exec (i : Instr) (s : State) : Host.Outcome State Fault Refusal :=
  match i with
  | .pingPkt id => Sys2Proof.Machine.execPingPkt id s
  | .readPkt id len => Sys2Proof.Machine.execReadPkt id len s
  | .writePkt id len => Sys2Proof.Machine.execWritePkt id len s
  | .statusPkt id len => Sys2Proof.Machine.execStatusPkt id len s
  | .init => Sys2Proof.Machine.execInit s
  | .ping => Sys2Proof.Machine.execPing s
  | .read => Sys2Proof.Machine.execRead s
  | .write => Sys2Proof.Machine.execWrite s

end Sys2Proof.Machine
end

