-- ==== Sys2Proof/Machine/Engine.lean ====
section
/-! DEFINITION. The engine's turn: which step its phase enables, and which instruction that step runs (R140, R152 to R175). -/

namespace Sys2Proof.Machine

/-- The instruction packet the context asks for (R152): the kind by CTX_OP, the id by CTX_ID, the length field P + 3 (R115). -/
def State.contextInstr (s : State) : Option Instr :=
  match s.ctx.op with
  | .none => none
  | .ping => some (.pingPkt s.ctx.id)
  | .read => some (.readPkt s.ctx.id (s.ctx.p + 3#16))
  | .write => some (.writePkt s.ctx.id (s.ctx.p + 3#16))

/-- The status packet at the front of RXB, if the header there is one (R76). -/
def State.receivedInstr (s : State) : Option Instr :=
  match decode s.cfg .packet s.ctx.rxb with
  | .ok (.statusPkt id len, _) => some (.statusPkt id len)
  | .ok _ => none
  | .error _ => none

/-- The instruction the engine's enabled step runs: the packet it builds in phase 1, the status packet it accepts in phases 6 and 7. -/
def State.engineInstr (s : State) : Option Instr :=
  match s.phase with
  | .build => s.contextInstr
  | .verify => s.receivedInstr
  | .parse => s.receivedInstr
  | .idle => none
  | .stuff => none
  | .checksum => none
  | .transmit => none
  | .receive => none

/-- The enabled step of a phase whose instruction is none of the table's: the steps that have no row (R76), a reply whose header is
no STATUS_PKT (R71, R72: the checks are made on the bytes), and BUILD with no operation (log 15). -/
def State.bareStep (s : State) : Result :=
  match s.phase with
  | .idle => .next s
  | .build => .fault .noOperation
  | .stuff => .next s.stuffStep
  | .checksum => .next s.checksumStep
  | .transmit => .next s.transmitStep
  | .receive => .next s.receiveStep
  | .verify => .next (s.verifyStep s.ctx.rxb)
  | .parse => .next s.parseStep

/-- The engine's turn (R140): its one enabled step, or none while BUSY = 0 or XPEND = 1 (R159, R163, R203). -/
def State.engineTurn (s : State) : Result :=
  if s.engineEnabled then
    match s.engineInstr with
    | some i => exec i s
    | none => s.bareStep
  else .next s

end Sys2Proof.Machine
end

