-- ==== Sys2Proof/Machine/HostPort.lean ====
section
/-! DEFINITION. The host's side: the register file (R11), its reads (R22, R26, R27) and its writes (R12, R17, R26, R27). -/

namespace Sys2Proof.Machine

/-- The number of PBUF[0] (R11). -/
def pbufBase : Nat := 0x10000
/-- The number of RBUF[0] (R11). -/
def rbufBase : Nat := 0x20000

/-- What a host read of register number `n` returns (R11, R22, R26, R27): narrower registers read with zeros above their width. -/
def State.readReg (s : State) (n : Nat) : Word :=
  match n with
  | 0x00 => 0#16
  | 0x01 => s.statWord.setWidth 16
  | 0x02 => s.devId.setWidth 16
  | 0x03 => s.txto
  | 0x04 => s.rxto
  | 0x05 => s.argId.setWidth 16
  | 0x06 => s.argAddr
  | 0x07 => s.argCount
  | 0x08 => s.argPlen
  | 0x09 => s.resStatus.code.setWidth 16
  | 0x0A => s.resCause.code.setWidth 16
  | 0x0B => s.resTstat.setWidth 16
  | 0x0C => s.gated (s.resId.setWidth 16)
  | 0x0D => s.gated (s.resErr.setWidth 16)
  | 0x0E => s.gated s.resPlen
  | 0x0F => s.phase.code.setWidth 16
  | n =>
    if pbufBase ≤ n ∧ n < pbufBase + s.cfg.maxParams then (s.pbufByte (n - pbufBase)).setWidth 16
    else if rbufBase ≤ n ∧ n < rbufBase + s.cfg.maxRead then
      if n - rbufBase < s.resPlen.toNat then s.gated ((byteAt s.rbuf (n - rbufBase)).setWidth 16) else 0#16
    else 0#16

/-- A host write of `v` to register number `n`, other than CMD, while BUSY = 0 (R11, R26, R27): bits above the register's width
are ignored; read-only and unassigned numbers ignore the write. -/
def State.writeReg (s : State) (n : Nat) (v : Word) : State :=
  match n with
  | 0x03 => { s with txto := v }
  | 0x04 => { s with rxto := v }
  | 0x05 => { s with argId := lo8 v }
  | 0x06 => { s with argAddr := v }
  | 0x07 => { s with argCount := v }
  | 0x08 => { s with argPlen := v }
  | n =>
    if pbufBase ≤ n ∧ n < pbufBase + s.cfg.maxParams then
      { s with pbuf := Memory.write (n - pbufBase) (lo8 v) s.pbuf }
    else s

/-- A host write of `v` to CMD while BUSY = 0 (R12, R144): the command its low byte names, or the ending of R146. -/
def State.writeCmd (s : State) (v : Word) : Result :=
  match decode s.cfg .command [lo8 v] with
  | .ok (i, _) => exec i s
  | .error _ => .next (s.accept.raise .rejBadOpcode)

/-- A host write (R11, R17, R26): while BUSY = 1 it is discarded and sets HOSTERR, whatever the number. -/
def State.hostWrite (s : State) (n : Nat) (v : Word) : Result :=
  if s.busy then .next s.hostError
  else if n = 0x00 then s.writeCmd v
  else .next (s.writeReg n v)

/-- A host read (R26): no register changes; the word read goes onto the host's data path (log 5). -/
def State.hostRead (s : State) (n : Nat) : State := { s with rdata := s.readReg n }

end Sys2Proof.Machine
end

