-- ==== Sys2Proof/Machine/Transport.lean ====
section
/-! DEFINITION. The transport's answers (R160, R161, R164 to R166). An answer that nothing awaits moves nothing (R191, R212; log 14). -/

namespace Sys2Proof.Machine

/-- XPEND = 1 in phase `ph`: the request of that phase is outstanding (R25). -/
def State.awaits (s : State) (ph : Phase) : Bool := s.ctx.xpend && decide (s.phase = ph)

/-- The transmit request has been answered with success (R160): the broadcast ending (R166), else on to phase 5. -/
def State.transmitted (s : State) : State :=
  if s.ctx.id = idBroadcast then s.completeOk
  else { s with ctx := { s.ctx with xpend := false }, phase := .receive }

/-- A transmit answer (R160, R161). -/
def State.txAnswer (s : State) (tstat : Byte) : Result :=
  if s.awaits .transmit then
    if tstat = 0#8 then .next s.transmitted
    else .next (State.raise { s with resTstat := tstat } .txFail)
  else .next s

/-- A receive answer (R164, R165). A failing answer leaves in RXB whatever bytes it carries, up to EXP_LEN of them: its contents
are unspecified (R142; log 13). A successful one carries exactly EXP_LEN bytes (R142; log 12). -/
def State.rxAnswer (s : State) (tstat : Byte) (data : List Byte) : Result :=
  if s.awaits .receive then
    if tstat = 0#8 then
      if data.length = s.ctx.expLen.toNat then
        .next { s with ctx := { s.ctx with rxb := data, xpend := false }, phase := .verify }
      else .fault .transportContract
    else
      .next (State.raise { s with resTstat := tstat, ctx := { s.ctx with rxb := data.take s.ctx.expLen.toNat } } .rxFail)
  else .next s

end Sys2Proof.Machine
end

