-- ==== Sys2Proof/Machine/Turns.lean ====
section
/-! DEFINITION. One move of an agent (R9, R140), reset (R210 to R212), and the placing of an instruction where the next step meets it. -/

namespace Sys2Proof.Machine

/-- Reset at any time (R212): every register takes its reset value and PBUF is unspecified anew. What the other agents will do
stays in the script; the parameters are no state (log 19). -/
def State.platformReset (s : State) : State := State.afterReset s.cfg (s.era + 1) s.script

/-- One move (R9: "one phase of the sequencer, one host register access, or one answer of the transport", or a reset). -/
def State.takeMove (s : State) : Move → Result
  | .engine => s.engineTurn
  | .hostWrite n v => s.hostWrite n v
  | .hostRead n => .next (s.hostRead n)
  | .txAnswer t => s.txAnswer t
  | .rxAnswer t d => s.rxAnswer t d
  | .reset => .next s.platformReset

/-- The next move and the state without it; with nothing left to happen it is the engine's turn (log 2). -/
def State.nextMove (s : State) : Move × State :=
  match s.script with
  | [] => (.engine, s)
  | m :: rest => (m, { s with script := rest })

/-- A command byte is met where the host writes CMD next. -/
def State.placeCommand (s : State) (w : Nat) : State :=
  { s with script := .hostWrite 0x00 (BitVec.ofNat 16 (w % 256)) :: s.script }

/-- An instruction packet is met in phase BUILD, as the packet the context asks for (`State.contextInstr`). -/
def State.placeBuild (s : State) (op : Op) (id : Byte) (len : Word) : State :=
  { s with
    busy := true
    phase := .build
    ctx := { s.ctx with op := op, id := id, p := len - 3#16, xpend := false }
    script := .engine :: s.script }

/-- Any other packet is met in phase VERIFY, in RXB, as a reply of as many bytes as its length field says and at least the 11 of a
status packet; the bytes after the header are 0. -/
def State.placeReply (s : State) (header : List Byte) : State :=
  { s with
    busy := true
    phase := .verify
    ctx := { s.ctx with
      rxb := header ++ List.replicate (max 3 ((wordAt header 5).toNat - 1)) 0#8
      expLen := BitVec.ofNat 16 (8 + max 3 ((wordAt header 5).toNat - 1))
      n := BitVec.ofNat 16 (max 3 ((wordAt header 5).toNat - 1) - 3)
      xpend := false }
    script := .engine :: s.script }

/-- A packet header goes where the engine's next step meets it. -/
def State.placePacket (s : State) (header : List Byte) : State :=
  match decode s.cfg .packet header with
  | .ok (.pingPkt id, _) => s.placeBuild .ping id 3#16
  | .ok (.readPkt id len, _) => s.placeBuild .read id len
  | .ok (.writePkt id len, _) => s.placeBuild .write id len
  | .ok _ => s.placeReply header
  | .error _ => s.placeReply header

end Sys2Proof.Machine
end

