-- ==== Sys2Proof/Machine/Step.lean ====
section
/-! DEFINITION. The step of the machine: the next move of an agent, or the engine's turn (R9, R140; log 2). -/

namespace Sys2Proof.Machine

/-- One step. -/
def step (s : State) : Host.Outcome State Fault Refusal :=
  s.nextMove.2.takeMove s.nextMove.1

/-- `s` with the instruction whose `nbits` table bits are `w` placed where the next step meets it (log 11). -/
def State.withFetchWord (s : State) (nbits w : Nat) : State :=
  if nbits ≤ 8 then s.placeCommand w else s.placePacket (tableHeader nbits w)

end Sys2Proof.Machine
end

