-- ==== Sys2Proof/Safety.lean ====
section
/-! DEFINITION. What a safe run is, and the invariants of the engine, in the terms the statements use. -/

namespace Sys2Proof.Machine

/-- A run is faulted from the first state with HOSTERR = 1 on (R17, R189, U1): the model goes on by its rules, and no property of
the surroundings is claimed there. -/
def State.faulted (s : State) : Bool := s.hosterr

/-- The host writes only while BUSY = 0 (R217), and the transport keeps its contract (R142). -/
def State.orderly (s : State) : Move → Bool
  | .engine => true
  | .hostWrite _ _ => !s.busy
  | .hostRead _ => true
  | .txAnswer _ => true
  | .rxAnswer tstat data => !(s.awaits .receive && tstat == 0#8) || decide (data.length = s.ctx.expLen.toNat)
  | .reset => true

/-- PHASE is 0 exactly when BUSY = 0 (R13), and a request is outstanding only in phases 4 and 5 of a command (R25). -/
def SequencerInv (s : State) : Prop :=
  (s.busy = true ↔ s.phase ≠ .idle) ∧ (s.ctx.xpend = true → s.phase = .transmit ∨ s.phase = .receive)

/-- A bound identifier is 0 to 252 or 254 (R16). -/
def HandleInv (s : State) : Prop := s.hvalid = true → validId s.devId = true

/-- The parameters obey R6, PBUF is in its canonical form (log 4), RBUF stays within its capacity (R48). -/
def StoreInv (s : State) : Prop :=
  s.cfg.wf = true ∧ Memory.wf s.cfg.maxParams s.pbuf ∧ s.rbuf.length ≤ s.cfg.maxRead

/-- RES_STATUS is the status of RES_CAUSE (R181); RES_TSTAT is non-zero exactly with TRANSPORT (R21, R204); a valid reply goes with
OK, and its payload lies in RBUF (R22); all of them are clear while BUSY = 1 (R26). -/
def ResultInv (s : State) : Prop :=
  s.resStatus = s.resCause.status ∧
  (s.resTstat ≠ 0#8 ↔ s.resStatus = .transport) ∧
  (s.resValid = true → s.resStatus = .ok ∧ s.resPlen.toNat ≤ s.rbuf.length) ∧
  (s.busy = true → s.resCause = .none ∧ s.resValid = false)

/-- P of the command in progress (R148, R147). -/
def State.paramsFit (s : State) : Prop :=
  match s.ctx.op with
  | .none => False
  | .ping => s.ctx.p = 0#16
  | .read => s.ctx.p = 4#16
  | .write => s.ctx.p.toNat ≤ s.cfg.maxParams

/-- While BUSY = 1 the context holds an operation on the bound handle, with operands within the capacities (R147, R148), and past
phase 4 a target that is not the broadcast id (R160, R162, R166). -/
def ContextInv (s : State) : Prop :=
  s.busy = true →
    s.hvalid = true ∧ s.ctx.id = s.devId ∧ s.paramsFit ∧
    s.ctx.n.toNat ≤ s.cfg.maxRead ∧ s.ctx.expLen = expectedLen s.ctx.n ∧
    (s.phase = .receive ∨ s.phase = .verify ∨ s.phase = .parse → s.ctx.id ≠ idBroadcast)

/-- The raw packet the context asks for (R152). -/
def State.contextRaw (s : State) : List Byte :=
  match s.ctx.op with
  | .none => []
  | .ping => buildPing s.cfg s.ctx.id
  | .read => buildRead s.cfg s.ctx.id s.ctx.addr s.ctx.n
  | .write => buildWrite s.cfg s.ctx.id (s.pbufBytes s.ctx.p.toNat)

/-- RAW as phase 1 leaves it (R152). -/
def State.rawMade (s : State) : Prop := s.ctx.raw = s.contextRaw

/-- WIRE as phase 2 leaves it (R155). -/
def State.wireStuffed (s : State) : Prop := finalize s.ctx.raw = some (s.ctx.wire, s.ctx.k.toNat)

/-- WIRE as phase 3 leaves it (R157). -/
def State.wireMade (s : State) : Prop := (finalize s.ctx.raw).map (fun w => crcAppend s.cfg w.1) = some s.ctx.wire

/-- RXB as phase 5 leaves it (R164). -/
def State.replyHeld (s : State) : Prop := s.ctx.rxb.length = s.ctx.expLen.toNat

/-- What phase 6 leaves (R167 to R170). -/
def State.replyVerified (s : State) : Prop :=
  checkMarker s.ctx.rxb = true ∧ checkLength s.ctx.rxb = true ∧ crcVerify s.cfg s.ctx.rxb = true ∧
  s.ctx.uns = unstuff (replyRegion s.ctx.rxb)

/-- In each phase the buffers hold what the phases before it made of the operands, and nothing has changed them since (R51, R54, R56). -/
def BufferInv (s : State) : Prop :=
  match s.phase with
  | .idle => True
  | .build => True
  | .stuff => s.rawMade
  | .checksum => s.rawMade ∧ s.wireStuffed
  | .transmit => s.rawMade ∧ s.wireMade
  | .receive => s.rawMade ∧ s.wireMade
  | .verify => s.rawMade ∧ s.wireMade ∧ s.replyHeld
  | .parse => s.rawMade ∧ s.wireMade ∧ s.replyHeld ∧ s.replyVerified

/-- The transmit request of the command in progress (R158). -/
def State.txRequest (s : State) : Request := .transmit s.ctx.wire s.txto

/-- The receive request of the command in progress (R162). -/
def State.rxRequest (s : State) : Request := .receive s.ctx.expLen s.rxto

/-- A transmit request, then at most one receive request (R176). -/
def oneExchange : List Request → Prop
  | [] => True
  | [.transmit _ _] => True
  | [.transmit _ _, .receive _ _] => True
  | _ => False

/-- The requests handed to the transport so far, phase by phase (R53, R158, R162, R176). -/
def PortInv (s : State) : Prop :=
  match s.phase with
  | .idle => oneExchange s.issued
  | .build => s.issued = []
  | .stuff => s.issued = []
  | .checksum => s.issued = []
  | .transmit => s.issued = if s.ctx.xpend then [s.txRequest] else []
  | .receive => s.issued = if s.ctx.xpend then [s.txRequest, s.rxRequest] else [s.txRequest]
  | .verify => s.issued = [s.txRequest, s.rxRequest]
  | .parse => s.issued = [s.txRequest, s.rxRequest]

/-- Everything that holds of the engine between two steps. -/
def Inv (s : State) : Prop :=
  SequencerInv s ∧ HandleInv s ∧ StoreInv s ∧ ResultInv s ∧ ContextInv s ∧ BufferInv s ∧ PortInv s

/-- The registers no ending touches (R186): handle, HOSTERR, timeouts, operands, PBUF; and the parameters. -/
def KeepsHostRegisters (s t : State) : Prop :=
  t.cfg = s.cfg ∧ t.era = s.era ∧ t.devId = s.devId ∧ t.hvalid = s.hvalid ∧ t.hosterr = s.hosterr ∧
  t.txto = s.txto ∧ t.rxto = s.rxto ∧ t.argId = s.argId ∧ t.argAddr = s.argAddr ∧ t.argCount = s.argCount ∧
  t.argPlen = s.argPlen ∧ t.pbuf = s.pbuf

/-- The state a failing check leaves (R186), field by field; everything not named is as it was. -/
def endedWith (s : State) (st : Status) (c : Cause) : State :=
  { s with
    resStatus := st
    resCause := c
    resValid := false
    busy := false
    phase := .idle
    ctx := { s.ctx with xpend := false } }

/-- The state a command refused at accept leaves (R144, R186), field by field; everything not named is as it was. -/
def refusedAtAccept (s : State) (c : Cause) : State :=
  { s with
    resStatus := .rejected
    resCause := c
    resTstat := 0x00#8
    resValid := false
    busy := false
    phase := .idle
    ctx := Ctx.cleared
    issued := [] }

/-- The state an accepted PING, READ or WRITE leaves (R144, R148), field by field; everything not named is as it was. -/
def startedWith (s : State) (op : Op) (p addr n : Word) : State :=
  { s with
    resStatus := .ok
    resCause := .none
    resTstat := 0x00#8
    resValid := false
    busy := true
    phase := .build
    ctx := { Ctx.cleared with op := op, id := s.devId, p := p, addr := addr, n := n, expLen := BitVec.ofNat 16 (11 + n.toNat) }
    issued := [] }

/-- How many moves a command still needs at most: its engine steps and its two answers (R13, R179). -/
def State.remaining (s : State) : Nat :=
  match s.phase with
  | .idle => 0
  | .build => 9
  | .stuff => 8
  | .checksum => 7
  | .transmit => if s.ctx.xpend then 5 else 6
  | .receive => if s.ctx.xpend then 3 else 4
  | .verify => 2
  | .parse => 1

/-- The move is the one the command in progress waits for (R140): the engine's turn, or the transport's answer to the outstanding
request, within its contract (R142). -/
def State.awaited (s : State) : Move → Bool
  | .engine => s.engineEnabled
  | .txAnswer _ => s.awaits .transmit
  | .rxAnswer tstat data => s.awaits .receive && (tstat != 0#8 || decide (data.length = s.ctx.expLen.toNat))
  | .hostWrite _ _ => false
  | .hostRead _ => false
  | .reset => false

/-- The rows of R179 for a step that changes PHASE: from, to, and the status written when the command ends. -/
def phaseRow (p q : Phase) (st : Status) : Prop :=
  match p, q with
  | .idle, .build => True
  | .build, .stuff => True
  | .stuff, .checksum => True
  | .stuff, .idle => st = .rejected
  | .checksum, .transmit => True
  | .transmit, .receive => True
  | .transmit, .idle => st = .ok ∨ st = .transport
  | .receive, .verify => True
  | .receive, .idle => st = .transport
  | .verify, .parse => True
  | .verify, .idle => st = .framing ∨ st = .checksum
  | .parse, .idle => st = .framing ∨ st = .ok
  | _, _ => False

/-- The unstuffer's scan state that answers the stuffer's (R105: "UM = SM"). -/
def StuffScan.mirrored : StuffScan → UnstuffScan
  | .zero => .zero
  | .one => .one
  | .two => .two

/-- A match position of the stuffer (R102): FF FF FD at offsets i to i + 2. -/
def markerAt (x : List Byte) (i : Nat) : Bool :=
  decide (x[i]? = some mark1) && decide (x[i + 1]? = some mark1) && decide (x[i + 2]? = some mark2)

/-- The scan of R104: each FF FF FD FD found from the left loses its last byte, and the scan goes on after it. -/
def dropEscapes : List Byte → List Byte
  | a :: b :: c :: d :: y =>
    if a = mark1 ∧ b = mark1 ∧ c = mark2 ∧ d = mark2 then a :: b :: c :: dropEscapes y
    else a :: dropEscapes (b :: c :: d :: y)
  | y => y

/-- How many removals the scan of R104 makes. -/
def escapeCount : List Byte → Nat
  | a :: b :: c :: d :: y =>
    if a = mark1 ∧ b = mark1 ∧ c = mark2 ∧ d = mark2 then escapeCount y + 1
    else escapeCount (b :: c :: d :: y)
  | _ => 0

/-- `(header & mask) == match` (R76), byte by byte. -/
def rowMatches (mask row header : List Byte) : Bool := List.zipWith (· &&& ·) header mask == row

/-- The parameters and instruction code of the packet that a command sends (R119 to R121), from the host's registers. -/
def State.commandPacket (s : State) (op : Op) : Byte × List Byte :=
  match op with
  | .none => (0x00#8, [])
  | .ping => (s.cfg.instrPing, [])
  | .read => (s.cfg.instrRead, readParams s.argAddr s.argCount)
  | .write => (s.cfg.instrWrite, s.pbufBytes s.argPlen.toNat)

/-- N of the command that an operation starts (R70). -/
def State.commandExtra (s : State) (op : Op) : Nat :=
  match op with
  | .none => 0
  | .ping => s.cfg.pingReplyExtra
  | .read => s.argCount.toNat
  | .write => 0

/-- The opcode of an operation (R74). -/
def Op.opcode : Op → Word
  | .none => 0x04#16
  | .ping => 0x01#16
  | .read => 0x02#16
  | .write => 0x03#16

/-- The command can be accepted (R147): a handle, and operands within the capacities. -/
def State.acceptable (s : State) (op : Op) : Prop :=
  s.busy = false ∧ s.hvalid = true ∧ op ≠ .none ∧
  (op = .read → s.argCount.toNat ≤ s.cfg.maxRead) ∧ (op = .write → s.argPlen.toNat ≤ s.cfg.maxParams)

/-- K of a parameter string: how many bytes the stuffer inserts (R102, R123). -/
def stuffedBytes (params : List Byte) : Nat := (stuff params).length - params.length

/-- The wire packet of R60 for parameters that fit: marker, reserved byte, id, the length `P + 3 + K`, instruction, stuffed
parameters, and the checksum over the bytes from CRC_FIRST on, low byte first. -/
def wirePacket (c : Config) (id code : Byte) (params : List Byte) : List Byte :=
  [0xFF#8, 0xFF#8, 0xFD#8, 0x00#8, id, lo8 (BitVec.ofNat 16 (params.length + 3 + stuffedBytes params)),
    hi8 (BitVec.ofNat 16 (params.length + 3 + stuffedBytes params)), code] ++ stuff params ++
  [lo8 (packetCrc c (rawPacket id (BitVec.ofNat 16 (params.length + 3 + stuffedBytes params)) code (stuff params)) (8 + (stuff params).length)),
   hi8 (packetCrc c (rawPacket id (BitVec.ofNat 16 (params.length + 3 + stuffedBytes params)) code (stuff params)) (8 + (stuff params).length))]

/-- The result registers after a reply `rx` to a command with N extra bytes, as `accept_status` decides (R132, R175, R186). -/
def resultsAre (t : State) (c : Config) (rx : List Byte) (n : Nat) : Prop :=
  t.busy = false ∧ t.phase = .idle ∧ t.ctx.xpend = false ∧
  match acceptStatus c rx n with
  | .error cause => t.resStatus = cause.status ∧ t.resCause = cause ∧ t.resValid = false
  | .ok r => t.resStatus = .ok ∧ t.resCause = .none ∧ t.resValid = true ∧ t.resId = r.id ∧ t.resErr = r.err ∧
      t.resPlen.toNat = n ∧ t.rbuf.take n = r.payload

end Sys2Proof.Machine
end

