-- ==== Sys2Proof/Certificates/Slice0/Obligations.lean ====
section
/-! DEFINITION. The statements about this engine, one definition each; OBLIGATIONS.json says which rule each rests on. In a statement about
a step, `s.nextMove = (m, u)` says that agent move `m` comes next and `u` is the state as that move finds it (`u` differs from `s` in the
script only, log 2); an engine's turn is `m = .engine`, from the script or with the script empty. -/

open Sys2Proof Sys2Proof.Machine

/-! ## Encoding -/

/-- Decoding the bits of any instruction, whatever follows them, gives it back with every operand, under any parameters that obey R6
(R60, R65 to R69, R74). -/
def Obligations.EncodeThenDecode : Prop :=
  ∀ (c : Config) (i : Instr) (rest : List Byte), c.wf = true → decode c i.port (encode c i ++ rest) = .ok (i, rest)

/-- Whatever the decoder reads as an instruction is exactly that instruction's bits: no two words share a meaning (R65 to R69, R74, R76). -/
def Obligations.DecodeThenEncode : Prop :=
  ∀ (c : Config) (port : Port) (bytes : List Byte) (i : Instr) (rest : List Byte),
    decode c port bytes = .ok (i, rest) → i.port = port ∧ bytes = encode c i ++ rest

/-- Words written out from R66 to R69 and R74 decode to the instruction they stand for; an opcode outside the table and a wrong marker do not. -/
def Obligations.SpecWordsDecode : Prop :=
  decode defaultConfig .packet [0xFF, 0xFF, 0xFD, 0x00, 0x01, 0x03, 0x00, 0x01] = .ok (.pingPkt 0x01, []) ∧
  decode defaultConfig .packet [0xFF, 0xFF, 0xFD, 0x00, 0x01, 0x07, 0x00, 0x02, 0x84, 0x00, 0x04, 0x00]
    = .ok (.readPkt 0x01 0x0007, [0x84, 0x00, 0x04, 0x00]) ∧
  decode defaultConfig .packet [0xFF, 0xFF, 0xFD, 0x00, 0xFE, 0x34, 0x12, 0x03] = .ok (.writePkt 0xFE 0x1234, []) ∧
  decode defaultConfig .packet [0xFF, 0xFF, 0xFD, 0x00, 0x01, 0x04, 0x00, 0x55, 0x00] = .ok (.statusPkt 0x01 0x0004, [0x00]) ∧
  decode defaultConfig .command [0x00] = .ok (.init, []) ∧ decode defaultConfig .command [0x01] = .ok (.ping, []) ∧
  decode defaultConfig .command [0x02] = .ok (.read, []) ∧ decode defaultConfig .command [0x03] = .ok (.write, []) ∧
  decode defaultConfig .command [0x04] = .error .unknownOpcode ∧
  decode defaultConfig .packet [0xFF, 0xFD, 0xFD, 0x00, 0x01, 0x03, 0x00, 0x01] = .error .badMarker

/-- The eight header bytes are of a packet kind exactly when `(header & mask) == match`, for the four packet rows of the table (R76). -/
def Obligations.PacketRowsMatchMasks : Prop :=
  ∀ header : List Byte, header.length = 8 →
    (rowMatches [0xFF, 0xFF, 0xFF, 0xFF, 0x00, 0xFF, 0xFF, 0xFF] [0xFF, 0xFF, 0xFD, 0x00, 0x00, 0x03, 0x00, 0x01] header = true ↔
      ∃ id, decode defaultConfig .packet header = .ok (.pingPkt id, [])) ∧
    (rowMatches [0xFF, 0xFF, 0xFF, 0xFF, 0x00, 0x00, 0x00, 0xFF] [0xFF, 0xFF, 0xFD, 0x00, 0x00, 0x00, 0x00, 0x02] header = true ↔
      ∃ id len, decode defaultConfig .packet header = .ok (.readPkt id len, [])) ∧
    (rowMatches [0xFF, 0xFF, 0xFF, 0xFF, 0x00, 0x00, 0x00, 0xFF] [0xFF, 0xFF, 0xFD, 0x00, 0x00, 0x00, 0x00, 0x03] header = true ↔
      ∃ id len, decode defaultConfig .packet header = .ok (.writePkt id len, [])) ∧
    (rowMatches [0xFF, 0xFF, 0xFF, 0xFF, 0x00, 0x00, 0x00, 0xFF] [0xFF, 0xFF, 0xFD, 0x00, 0x00, 0x00, 0x00, 0x55] header = true ↔
      ∃ id len, decode defaultConfig .packet header = .ok (.statusPkt id len, []))

/-! ## The checksum engine -/

/-- One byte of the checksum, in the arithmetic of R91: the index is the seed's high byte exclusive-or the byte, always a place of the
table (R96); the seed's low byte moves up, its high byte is dropped, and the entry is exclusive-ored in. With the default table, the
worked example. -/
def Obligations.CrcStepFormula : Prop :=
  (∀ (table : List Word) (seed : Word) (b : Byte), table.length = 256 →
    ∃ h : (seed.toNat / 256) ^^^ b.toNat < table.length,
      (crcStep table seed b).toNat = (seed.toNat % 256 * 256) ^^^ (table[(seed.toNat / 256) ^^^ b.toNat]'h).toNat) ∧
  crcStep defaultCrcTable 0x1234 0xAB = 0xB795

/-- The checksum is running (R93): fed in two chunks, or in any number of chunks of any sizes, it gives the value of the whole. -/
def Obligations.CrcChunks : Prop :=
  (∀ (table : List Word) (s : Word) (a b : List Byte), crc table (crc table s a) b = crc table s (a ++ b)) ∧
  (∀ (table : List Word) (s : Word) (chunks : List (List Byte)), chunks.foldl (crc table) s = crc table s chunks.flatten)

/-- A packet ending in any two bytes verifies exactly when those two are the ones `crc_append` puts there (R94, R95). -/
def Obligations.OnlyTheAppendedChecksumVerifies : Prop :=
  ∀ (c : Config) (pkt : List Byte) (x y : Byte), crcVerify c (pkt ++ [x, y]) = true ↔ pkt ++ [x, y] = crcAppend c pkt

/-- Of an acceptable reply, every corruption of the trailing byte gives the checksum error (R95, R184). -/
def Obligations.CorruptedTrailingByteRejected : Prop :=
  ∀ (c : Config) (rx : List Byte) (a b : Byte) (n : Nat) (r : Reply),
    acceptStatus c (rx ++ [a]) n = .ok r → b ≠ a → acceptStatus c (rx ++ [b]) n = .error .badCrc

/-! ## The stuffer and the unstuffer -/

/-- Round trip (R105): unstuffing what the stuffer made gives the input back, for every byte string, and the two machines end in
corresponding states, which holds after each input byte since it holds of every prefix. -/
def Obligations.UnstuffStuff : Prop :=
  ∀ x : List Byte, unstuff (stuff x) = x ∧
    unstuffFrom .zero (stuffFrom .zero x).1 = (x, (stuffFrom .zero x).2.mirrored)

/-- In `stuff(x)` every FF FF FD is immediately followed by FD (R108). -/
def Obligations.StuffedMarkersAreEscaped : Prop :=
  ∀ (x : List Byte) (i : Nat), markerAt (stuff x) i = true → (stuff x)[i + 3]? = some 0xFD

/-- The expansion bound (R106): at most a third more, never more than double, and FF FF FD repeated reaches the third. -/
def Obligations.StuffExpansion : Prop :=
  (∀ x : List Byte, stuffedBytes x ≤ x.length / 3 ∧ x.length ≤ (stuff x).length ∧
    (stuff x).length ≤ x.length + x.length / 3 ∧ (stuff x).length ≤ 2 * x.length) ∧
  (∀ n : Nat, stuffedBytes (List.replicate n [0xFF#8, 0xFF#8, 0xFD#8]).flatten =
    (List.replicate n [0xFF#8, 0xFF#8, 0xFD#8]).flatten.length / 3)

/-- Both machines carry all they remember in SM and UM (R107): a region fed in two chunks gives the output of the first from the start
followed by that of the second from the state the first left, which is the output of the whole. -/
def Obligations.ChunkedStuffing : Prop :=
  ∀ a b : List Byte,
    stuff (a ++ b) = (stuffFrom .zero a).1 ++ (stuffFrom (stuffFrom .zero a).2 b).1 ∧
    unstuff (a ++ b) = (unstuffFrom .zero a).1 ++ (unstuffFrom (unstuffFrom .zero a).2 b).1 ∧
    (∀ sm, stuffFrom sm (a ++ b) =
      ((stuffFrom sm a).1 ++ (stuffFrom (stuffFrom sm a).2 b).1, (stuffFrom (stuffFrom sm a).2 b).2)) ∧
    (∀ um, unstuffFrom um (a ++ b) =
      ((unstuffFrom um a).1 ++ (unstuffFrom (unstuffFrom um a).2 b).1, (unstuffFrom (unstuffFrom um a).2 b).2))

/-- Stuffing declaratively (R102): match positions never share a byte; one FD is inserted after offset i + 2 of every match position i
and nothing else is; K is the number of match positions; back-to-back markers are stuffed independently. -/
def Obligations.StuffIsInsertion : Prop :=
  (∀ (x : List Byte) (i j : Nat), markerAt x i = true → markerAt x j = true → i < j → i + 3 ≤ j) ∧
  (∀ x : List Byte, stuff x = (List.range x.length).flatMap fun j =>
    if 2 ≤ j ∧ markerAt x (j - 2) = true then [byteAt x j, 0xFD] else [byteAt x j]) ∧
  (∀ x : List Byte, stuffedBytes x = (List.range x.length).countP (markerAt x)) ∧
  stuff [0xFF, 0xFF, 0xFD, 0xFF, 0xFF, 0xFD] = [0xFF, 0xFF, 0xFD, 0xFD, 0xFF, 0xFF, 0xFD, 0xFD]

/-- Unstuffing declaratively (R104): the scan that drops the last byte of each FF FF FD FD and goes on after it; the length falls by
the number of removals; not injective; the left inverse of stuffing but not its right inverse. -/
def Obligations.UnstuffIsRemoval : Prop :=
  (∀ y : List Byte, unstuff y = dropEscapes y ∧ (unstuff y).length = y.length - escapeCount y ∧ escapeCount y ≤ y.length) ∧
  unstuff [0xFF, 0xFF, 0xFD, 0xFD] = [0xFF, 0xFF, 0xFD] ∧ unstuff [0xFF, 0xFF, 0xFD] = [0xFF, 0xFF, 0xFD] ∧
  (∀ x : List Byte, unstuff (stuff x) = x) ∧ (∃ y : List Byte, stuff (unstuff y) ≠ y)

/-! ## The packet codec -/

/-- The raw packets byte by byte, with the default instruction codes, and their lengths (R115, R118 to R122). -/
def Obligations.BuiltPackets : Prop :=
  (∀ id : Byte, buildPing defaultConfig id = [0xFF, 0xFF, 0xFD, 0x00, id, 0x03, 0x00, 0x01]) ∧
  (∀ (id : Byte) (addr count : Word), buildRead defaultConfig id addr count =
    [0xFF, 0xFF, 0xFD, 0x00, id, 0x07, 0x00, 0x02, lo8 addr, hi8 addr, lo8 count, hi8 count]) ∧
  (∀ (id : Byte) (params : List Byte), buildWrite defaultConfig id params =
    [0xFF, 0xFF, 0xFD, 0x00, id, lo8 (BitVec.ofNat 16 (params.length + 3)), hi8 (BitVec.ofNat 16 (params.length + 3)), 0x03] ++ params) ∧
  (∀ (id code : Byte) (params : List Byte), (buildRaw id code params).length = 8 + params.length) ∧
  (∀ (id code : Byte) (params : List Byte), params.length ≤ 65532 →
    (wordAt (buildRaw id code params) 5).toNat = params.length + 3)

/-- Stuffing never touches the header (R123), for every id and code an engine uses. -/
def Obligations.HeaderNeverStuffed : Prop :=
  (∀ (id code : Byte) (params : List Byte), id ≠ 0xFF → code ≠ 0xFF → code ≠ 0xFD →
    (∀ i < 5, markerAt ((buildRaw id code params).drop 3) i = false) ∧
    (stuffFrom .zero (((buildRaw id code params).drop 3).take 5)).2 = .zero ∧
    stuff ((buildRaw id code params).drop 3) = ((buildRaw id code params).drop 3).take 5 ++ stuff params ∧
    (∀ i, 5 ≤ i → i < 8 →
      byteAt ((buildRaw id code params).take 3 ++ stuff ((buildRaw id code params).drop 3)) i = byteAt (buildRaw id code params) i) ∧
    insertedCount (buildRaw id code params) = (List.range params.length).countP (markerAt params) ∧
    insertedCount (buildRaw id code params) ≤ params.length / 3 ∧
    (∀ len : Nat, (setLength ((buildRaw id code params).take 3 ++ stuff ((buildRaw id code params).drop 3)) len).drop 3 =
      stuff ((setLength (buildRaw id code params) len).drop 3))) ∧
  (∀ (c : Config) (id : Byte), c.wf = true → validId id = true →
    id ≠ 0xFF ∧ ∀ code ∈ [c.instrPing, c.instrRead, c.instrWrite], code ≠ 0xFF ∧ code ≠ 0xFD)

/-- `finalize` (R124): overflow exactly when P + 3 + K exceeds 65535; otherwise the header with the new length, the parameters stuffed,
and K; when nothing was stuffed the packet is as it was; the worked example. -/
def Obligations.FinalizedPacket : Prop :=
  (∀ (id code : Byte) (params : List Byte), id ≠ 0xFF → code ≠ 0xFF → code ≠ 0xFD →
    (65535 < params.length + 3 + stuffedBytes params → finalize (buildRaw id code params) = none) ∧
    (params.length + 3 + stuffedBytes params ≤ 65535 →
      ∃ w, finalize (buildRaw id code params) = some (w, stuffedBytes params) ∧
        w = [0xFF, 0xFF, 0xFD, 0x00, id, lo8 (BitVec.ofNat 16 (params.length + 3 + stuffedBytes params)),
          hi8 (BitVec.ofNat 16 (params.length + 3 + stuffedBytes params)), code] ++ stuff params ∧
        w.length = 8 + params.length + stuffedBytes params ∧
        (stuffedBytes params = 0 → w = buildRaw id code params))) ∧
  finalize [0xFF, 0xFF, 0xFD, 0x00, 0x01, 0x09, 0x00, 0x03, 0x74, 0x00, 0xFF, 0xFF, 0xFD, 0x00] =
    some ([0xFF, 0xFF, 0xFD, 0x00, 0x01, 0x0A, 0x00, 0x03, 0x74, 0x00, 0xFF, 0xFF, 0xFD, 0xFD, 0x00], 1)

/-- The length field overflows only with 49150 parameters or more, and with 49150 it can (R116). -/
def Obligations.OverflowOnlyAbove : Prop :=
  (∀ params : List Byte, 65535 < lenPost params.length (stuffedBytes params) → 49150 ≤ params.length) ∧
  (∃ params : List Byte, params.length = 49150 ∧ stuffedBytes params = 16383 ∧ lenPost params.length (stuffedBytes params) = 65536)

/-- What acceptance tests and what it hands on (R125 to R133), of a reply of the expected size: the marker, the length field N + 4, the
checksum, that unstuffing removes nothing, the instruction byte; id, error byte and payload come from packet offsets 4, 8 and 9 on.
Nothing else is tested: not the reserved byte, not the id, not the error byte. -/
def Obligations.AcceptanceDecided : Prop :=
  ∀ (c : Config) (rx : List Byte) (n : Nat) (r : Reply), rx.length = 11 + n →
    (acceptStatus c rx n = .ok r ↔
      rx.take 3 = [0xFF, 0xFF, 0xFD] ∧ (wordAt rx 5).toNat = n + 4 ∧ crcVerify c rx = true ∧
      escapeCount (replyRegion rx) = 0 ∧ byteAt rx 7 = 0x55 ∧
      r = { id := byteAt rx 4, err := byteAt rx 8, payload := between rx 9 (9 + n) })

/-! ## The host commands -/

/-- INIT (R145): on an unbound engine and an id other than 253 and 255 it binds DEV_ID and sets HVALID, on a bound engine it is refused
before the id is looked at, and on an invalid id it is refused; nothing is sent. The worked example after reset. -/
def Obligations.InitCommand : Prop :=
  (∀ s : State, s.busy = false → s.hvalid = false → s.argId ≠ 253 → s.argId ≠ 255 →
    exec .init s = .next { s with
      devId := s.argId, hvalid := true, busy := false, phase := .idle,
      resStatus := .ok, resCause := .none, resTstat := 0x00, resValid := false, ctx := Ctx.cleared, issued := [] }) ∧
  (∀ s : State, s.busy = false → s.hvalid = true → exec .init s = .next (refusedAtAccept s .rejHandleBound)) ∧
  (∀ s : State, s.busy = false → s.hvalid = false → s.argId = 253 ∨ s.argId = 255 →
    exec .init s = .next (refusedAtAccept s .rejBadId)) ∧
  (∀ s : State, s = { State.reset with argId := 1 } →
    ∃ t, exec .init s = .next t ∧ t.devId = 0x01 ∧ t.statWord = 0x02 ∧ t.resStatus.code = 0 ∧
      ∃ u, exec .init { t with argId := 2 } = .next u ∧ u.devId = 0x01 ∧ u.resStatus.code = 4 ∧ u.resCause = .rejHandleBound)

/-- PING, READ and WRITE whose checks pass (R148): the operands go into the context, EXP_LEN is 11 + N without wrapping under R6, BUSY is
set and phase 1 follows. -/
def Obligations.CommandsAccepted : Prop :=
  ∀ s : State, s.busy = false → s.hvalid = true → s.cfg.wf = true →
    exec .ping s = .next (startedWith s .ping 0 0 (BitVec.ofNat 16 s.cfg.pingReplyExtra)) ∧
    (s.argCount.toNat ≤ s.cfg.maxRead → exec .read s = .next (startedWith s .read 4 s.argAddr s.argCount)) ∧
    (s.argPlen.toNat ≤ s.cfg.maxParams → exec .write s = .next (startedWith s .write s.argPlen 0 0)) ∧
    (startedWith s .ping 0 0 (BitVec.ofNat 16 s.cfg.pingReplyExtra)).ctx.expLen.toNat = 11 + s.cfg.pingReplyExtra ∧
    (s.argCount.toNat ≤ s.cfg.maxRead →
      (startedWith s .read 4 s.argAddr s.argCount).ctx.expLen.toNat = 11 + s.argCount.toNat) ∧
    (startedWith s .write s.argPlen 0 0).ctx.expLen.toNat = 11

/-- The accept checks in their order (R147): no handle first, then the capacities; a refused command never shows BUSY = 1, builds
nothing and sends nothing. -/
def Obligations.CommandsRejected : Prop :=
  (∀ s : State, s.busy = false → s.hvalid = false →
    exec .ping s = .next (refusedAtAccept s .rejNoHandle) ∧ exec .read s = .next (refusedAtAccept s .rejNoHandle) ∧
    exec .write s = .next (refusedAtAccept s .rejNoHandle)) ∧
  (∀ s : State, s.busy = false → s.hvalid = true → s.cfg.maxParams < s.argPlen.toNat →
    exec .write s = .next (refusedAtAccept s .rejPlenOverflow)) ∧
  (∀ s : State, s.busy = false → s.hvalid = true → s.cfg.maxRead < s.argCount.toNat →
    exec .read s = .next (refusedAtAccept s .rejCountOverflow))

/-- A CMD value of 0x04 to 0xFF is accepted and rejected; nothing else changes and BUSY stays 0 (R146). -/
def Obligations.UnknownOpcodeRejected : Prop :=
  ∀ (s u : State) (v : Word), s.nextMove = (.hostWrite 0x00 v, u) → u.busy = false → 0x04 ≤ (lo8 v).toNat →
    step s = .next (refusedAtAccept u .rejBadOpcode)

/-- A host write to any number while BUSY = 1 is discarded: nothing changes but HOSTERR (R12, R17, R189). So is a command. -/
def Obligations.HostWriteWhileBusy : Prop :=
  (∀ (s u : State) (n : Nat) (v : Word), s.nextMove = (.hostWrite n v, u) → u.busy = true →
    step s = .next { u with hosterr := true }) ∧
  (∀ (s : State) (i : Instr), s.busy = true → i.port = .command → exec i s = .next { s with hosterr := true })

/-! ## The packets -/

/-- The three instruction packets in phase BUILD: RAW holds the packet with these header bytes and the parameters of R118, R121, and
phase 2 follows (R119 to R122, R152). That a packet row stands for this step is the model's reading (log 7). -/
def Obligations.InstructionPacketsBuilt : Prop :=
  ∀ s : State, s.busy = true → s.ctx.xpend = false → s.phase = .build →
    (∀ id : Byte, exec (.pingPkt id) s = .next { s with
      ctx := { s.ctx with raw := [0xFF, 0xFF, 0xFD, 0x00, id, 0x03, 0x00, s.cfg.instrPing] }, phase := .stuff }) ∧
    (∀ (id : Byte) (len : Word), exec (.readPkt id len) s = .next { s with
      ctx := { s.ctx with raw := [0xFF, 0xFF, 0xFD, 0x00, id, lo8 len, hi8 len, s.cfg.instrRead,
        lo8 s.ctx.addr, hi8 s.ctx.addr, lo8 s.ctx.n, hi8 s.ctx.n] }, phase := .stuff }) ∧
    (∀ (id : Byte) (len : Word), exec (.writePkt id len) s = .next { s with
      ctx := { s.ctx with raw := [0xFF, 0xFF, 0xFD, 0x00, id, lo8 len, hi8 len, s.cfg.instrWrite] ++
        (List.range (len.toNat - 3)).map s.pbufByte }, phase := .stuff })

/-- Phase 1 (R152): RAW is the packet of the operation in the context, 8 + P bytes, and phase 2 follows; the step cannot fail. -/
def Obligations.BuildStep : Prop :=
  ∀ s u : State, s.nextMove = (.engine, u) → u.busy = true → u.ctx.xpend = false → u.phase = .build → u.cfg.wf = true → u.paramsFit →
    step s = .next { u with ctx := { u.ctx with raw := u.contextRaw }, phase := .stuff } ∧
    u.contextRaw.length = 8 + u.ctx.p.toNat ∧
    (u.ctx.op = .ping → u.contextRaw = buildPing u.cfg u.ctx.id) ∧
    (u.ctx.op = .read → u.contextRaw = buildRead u.cfg u.ctx.id u.ctx.addr u.ctx.n) ∧
    (u.ctx.op = .write → u.contextRaw = buildWrite u.cfg u.ctx.id ((List.range u.ctx.p.toNat).map u.pbufByte))

/-- A packet row outside the phase whose step it stands for changes nothing: no such step is enabled (R140). The model's reading (log 8). -/
def Obligations.PacketsOutsidePhase : Prop :=
  ∀ (s : State) (id : Byte) (len : Word),
    (¬(s.busy = true ∧ s.ctx.xpend = false ∧ s.phase = .build) →
      exec (.pingPkt id) s = .next s ∧ exec (.readPkt id len) s = .next s ∧ exec (.writePkt id len) s = .next s) ∧
    (¬(s.busy = true ∧ s.ctx.xpend = false ∧ (s.phase = .verify ∨ s.phase = .parse)) → exec (.statusPkt id len) s = .next s)

/-- The status packet whose header is in RXB (R132): in VERIFY its length field, then its checksum are tested and UNS is made; in PARSE
the shortfall, then the instruction byte are tested and the results are written. Two things in it are the model's reading: that its row
stands for these steps (log 7), and that the cells of RBUF at and beyond N keep what they held (log 18). -/
def Obligations.StatusPacketCompletes : Prop :=
  (∀ (s : State) (id : Byte) (len : Word) (rx : List Byte),
    s.busy = true → s.ctx.xpend = false → s.phase = .verify →
    rx = [0xFF, 0xFF, 0xFD, 0x00, id, lo8 len, hi8 len, 0x55] ++ s.ctx.rxb.drop 8 →
    (len.toNat + 7 ≠ rx.length → exec (.statusPkt id len) s = .next (endedWith s .framing .badLength)) ∧
    (len.toNat + 7 = rx.length → crcVerify s.cfg rx = false →
      ∃ crc, exec (.statusPkt id len) s = .next (endedWith { s with ctx := { s.ctx with crc := crc } } .checksum .badCrc)) ∧
    (len.toNat + 7 = rx.length → crcVerify s.cfg rx = true →
      exec (.statusPkt id len) s = .next { s with
        ctx := { s.ctx with
          crc := wordAt rx (rx.length - 2)
          uns := unstuff (between rx 3 (rx.length - 2))
          um := (unstuffFrom .zero (between rx 3 (rx.length - 2))).2 }
        phase := .parse })) ∧
  (∀ (s : State) (id : Byte) (len : Word), s.busy = true → s.ctx.xpend = false → s.phase = .parse →
    (s.ctx.uns.length + 5 ≠ s.ctx.expLen.toNat → exec (.statusPkt id len) s = .next (endedWith s .framing .shortPayload)) ∧
    (s.ctx.uns.length + 5 = s.ctx.expLen.toNat → byteAt s.ctx.uns 4 ≠ 0x55 →
      exec (.statusPkt id len) s = .next (endedWith s .framing .badInstr)) ∧
    (s.ctx.uns.length + 5 = s.ctx.expLen.toNat → byteAt s.ctx.uns 4 = 0x55 →
      exec (.statusPkt id len) s = .next { s with
        resId := byteAt s.ctx.uns 1
        resErr := byteAt s.ctx.uns 5
        resPlen := s.ctx.n
        rbuf := between s.ctx.uns 6 (6 + s.ctx.n.toNat) ++ s.rbuf.drop s.ctx.n.toNat
        resValid := true
        resStatus := .ok
        resCause := .none
        busy := false
        phase := .idle
        ctx := { s.ctx with xpend := false } }))

/-- The frame of the eight instructions (R19, R20, R57, R186): what each can change when exec gives a next state, and that everything
else, every byte of PBUF included, stays. -/
def Obligations.ExecFrame : Prop :=
  ∀ (i : Instr) (s t : State), exec i s = .next t →
    (∀ a : Nat, t.pbufByte a = s.pbufByte a) ∧
    (match i with
     | .pingPkt _ => t = { s with ctx := { s.ctx with raw := t.ctx.raw }, phase := t.phase }
     | .readPkt _ _ => t = { s with ctx := { s.ctx with raw := t.ctx.raw }, phase := t.phase }
     | .writePkt _ _ => t = { s with ctx := { s.ctx with raw := t.ctx.raw }, phase := t.phase }
     | .statusPkt _ _ => t = { s with
         ctx := { s.ctx with crc := t.ctx.crc, uns := t.ctx.uns, um := t.ctx.um, xpend := t.ctx.xpend }
         busy := t.busy, phase := t.phase, resStatus := t.resStatus, resCause := t.resCause, resValid := t.resValid
         resId := t.resId, resErr := t.resErr, resPlen := t.resPlen, rbuf := t.rbuf } ∧
         (t.resValid = false → t.resId = s.resId ∧ t.resErr = s.resErr ∧ t.resPlen = s.resPlen ∧ t.rbuf = s.rbuf)
     | .init => t = { s with
         ctx := t.ctx, issued := t.issued, busy := t.busy, phase := t.phase, hosterr := t.hosterr, resStatus := t.resStatus
         resCause := t.resCause, resTstat := t.resTstat, resValid := t.resValid, devId := t.devId, hvalid := t.hvalid }
     | .ping => t = { s with
         ctx := t.ctx, issued := t.issued, busy := t.busy, phase := t.phase, hosterr := t.hosterr, resStatus := t.resStatus
         resCause := t.resCause, resTstat := t.resTstat, resValid := t.resValid }
     | .read => t = { s with
         ctx := t.ctx, issued := t.issued, busy := t.busy, phase := t.phase, hosterr := t.hosterr, resStatus := t.resStatus
         resCause := t.resCause, resTstat := t.resTstat, resValid := t.resValid }
     | .write => t = { s with
         ctx := t.ctx, issued := t.issued, busy := t.busy, phase := t.phase, hosterr := t.hosterr, resStatus := t.resStatus
         resCause := t.resCause, resTstat := t.resTstat, resValid := t.resValid }) ∧
    (s.busy = false → t.hosterr = s.hosterr) ∧ (i.port = .packet → t.hosterr = s.hosterr)

/-! ## Steps -/

/-- A step runs the decoded instruction (R76, R140, R144, R152). A write of an opcode to CMD is exec of that command. In phases 6 and 7 a
status packet at the front of RXB is exec of it. In phase 1 the packet the context asks for, whose bits are the eight header bytes of
RAW, is exec of it. Three things in it are the model's: that the engine's steps of phases 1, 6 and 7 run a packet row is its reading
(log 7), that an empty script is the engine's turn (log 2) and that the word placed by `withFetchWord` is the instruction the very next
step runs (log 11) are its choices. -/
def Obligations.StepRunsDecodedInstruction : Prop :=
  (∀ (s u : State) (v : Word) (i : Instr) (rest : List Byte), s.nextMove = (.hostWrite 0x00 v, u) →
    decode u.cfg .command [lo8 v] = .ok (i, rest) → step s = exec i u) ∧
  (∀ (s u : State) (id : Byte) (len : Word) (rest : List Byte), s.nextMove = (.engine, u) → u.busy = true → u.ctx.xpend = false →
    u.phase = .verify ∨ u.phase = .parse → decode u.cfg .packet u.ctx.rxb = .ok (.statusPkt id len, rest) →
    step s = exec (.statusPkt id len) u) ∧
  (∀ s u : State, s.nextMove = (.engine, u) → u.busy = true → u.ctx.xpend = false → u.phase = .build → u.cfg.wf = true → u.paramsFit →
    ∃ i, decode u.cfg .packet u.contextRaw = .ok (i, u.contextRaw.drop 8) ∧ step s = exec i u) ∧
  (∀ s : State, s.script = [] → s.nextMove = (.engine, s)) ∧
  (∀ (s : State) (w : Nat) (i : Instr), decodeTableWord 8 w = some i → step (s.withFetchWord 8 w) = exec i s) ∧
  (∀ (s : State) (w : Nat) (i : Instr), s.cfg = defaultConfig → decodeTableWord 64 w = some i →
    step (s.withFetchWord 64 w) = exec i { s.withFetchWord 64 w with script := s.script })

/-- Phase 2 (R153 to R155): the stuffer runs over RAW[3 ..]; a length above 65535 ends the command with nothing transmitted; otherwise WIRE
is the marker and the stuffed region with the new length, WIRE_LEN is 8 + P + K, and phase 3 follows. -/
def Obligations.StuffPhase : Prop :=
  ∀ s u : State, s.nextMove = (.engine, u) → u.busy = true → u.ctx.xpend = false → u.phase = .stuff →
    u.ctx.raw.length = 8 + u.ctx.p.toNat →
    ∀ (region : List Byte) (k : Nat), region = stuff (u.ctx.raw.drop 3) → k = region.length - (u.ctx.p.toNat + 5) →
      (65535 < u.ctx.p.toNat + 3 + k → ∃ (k' : Word) (sm : StuffScan),
        step s = .next (endedWith { u with ctx := { u.ctx with k := k', sm := sm } } .rejected .rejLenOverflow)) ∧
      (u.ctx.p.toNat + 3 + k ≤ 65535 → ∃ (wire : List Byte) (sm : StuffScan),
        step s = .next { u with ctx := { u.ctx with wire := wire, k := BitVec.ofNat 16 k, sm := sm }, phase := .checksum } ∧
        wire = ((u.ctx.raw.take 3 ++ region).set 5 (lo8 (BitVec.ofNat 16 (u.ctx.p.toNat + 3 + k)))).set 6
          (hi8 (BitVec.ofNat 16 (u.ctx.p.toNat + 3 + k))) ∧
        wire.length = 8 + u.ctx.p.toNat + k ∧ (BitVec.ofNat 16 k).toNat = k ∧
        wordAt wire 5 = BitVec.ofNat 16 (u.ctx.p.toNat + 3 + k) ∧ sm = (stuffFrom .zero (u.ctx.raw.drop 3)).2)

/-- Phase 3 (R156, R157): CRC over WIRE[CRC_FIRST ..], appended low byte first, and phase 4 follows. With WIRE of 8 + P + K bytes the whole
packet has 10 + P + K. -/
def Obligations.ChecksumPhase : Prop :=
  ∀ s u : State, s.nextMove = (.engine, u) → u.busy = true → u.ctx.xpend = false → u.phase = .checksum →
    ∃ sum : Word, sum = crc u.cfg.crcTable u.cfg.crcSeed (u.ctx.wire.drop u.cfg.crcFirst) ∧
      step s = .next { u with ctx := { u.ctx with crc := sum, wire := u.ctx.wire ++ [lo8 sum, hi8 sum] }, phase := .transmit } ∧
      (u.ctx.wire ++ [lo8 sum, hi8 sum]).length = u.ctx.wire.length + 2 ∧
      (u.ctx.wire.length = 8 + u.ctx.p.toNat + u.ctx.k.toNat →
        (u.ctx.wire ++ [lo8 sum, hi8 sum]).length = 10 + u.ctx.p.toNat + u.ctx.k.toNat)

/-- The issue steps (R158, R162): the request goes out with the bytes of WIRE and TXTO, or with EXP_LEN and RXTO, XPEND is set and PHASE
stays. `issued` is the model's record of the requests (log 6). -/
def Obligations.RequestsIssued : Prop :=
  ∀ s u : State, s.nextMove = (.engine, u) → u.busy = true → u.ctx.xpend = false →
    (u.phase = .transmit → step s = .next { u with
      ctx := { u.ctx with xpend := true }, issued := u.issued ++ [.transmit u.ctx.wire u.txto] }) ∧
    (u.phase = .receive → step s = .next { u with
      ctx := { u.ctx with xpend := true }, issued := u.issued ++ [.receive u.ctx.expLen u.rxto] })

/-- A transmit answer (R160, R161, R166): success goes on to phase 5, or ends the command for the broadcast id; failure ends it with
TX_FAIL and the transport's byte. -/
def Obligations.TransmitAnswered : Prop :=
  ∀ (s u : State) (tstat : Byte), s.nextMove = (.txAnswer tstat, u) → u.phase = .transmit → u.ctx.xpend = true →
    (tstat = 0 → u.ctx.id ≠ 254 → step s = .next { u with ctx := { u.ctx with xpend := false }, phase := .receive }) ∧
    (tstat = 0 → u.ctx.id = 254 → step s = .next { u with
      ctx := { u.ctx with xpend := false }, resStatus := .ok, resCause := .none, busy := false, phase := .idle }) ∧
    (tstat ≠ 0 → step s = .next (endedWith { u with resTstat := tstat } .transport .txFail))

/-- A receive answer (R164, R165): success delivers the bytes and phase 6 follows; failure ends the command with RX_FAIL and the
transport's byte. What a failing answer leaves in RXB is not said. -/
def Obligations.ReceiveAnswered : Prop :=
  ∀ (s u : State) (tstat : Byte) (r : List Byte), s.nextMove = (.rxAnswer tstat r, u) → u.phase = .receive → u.ctx.xpend = true →
    (tstat = 0 → r.length = u.ctx.expLen.toNat →
      step s = .next { u with ctx := { u.ctx with rxb := r, xpend := false }, phase := .verify }) ∧
    (tstat ≠ 0 → ∃ rxb : List Byte,
      step s = .next (endedWith { u with resTstat := tstat, ctx := { u.ctx with rxb := rxb } } .transport .rxFail))

/-- Waiting (R140, R159, R163, R191, R203, R212): while XPEND = 1 or BUSY = 0 the engine has no step, and an answer comes only to the
request that is outstanding. That a turn without a step leaves the state as it is is the model's choice (log 2); that an answer which
nothing awaits, in the other phase as well, does so is the model's reading (log 14). -/
def Obligations.WaitsForTransport : Prop :=
  (∀ s u : State, s.nextMove = (.engine, u) → u.busy = false ∨ u.ctx.xpend = true → step s = .next u) ∧
  (∀ (s u : State) (tstat : Byte), s.nextMove = (.txAnswer tstat, u) → u.ctx.xpend = false ∨ u.phase ≠ .transmit → step s = .next u) ∧
  (∀ (s u : State) (tstat : Byte) (r : List Byte), s.nextMove = (.rxAnswer tstat r, u) →
    u.ctx.xpend = false ∨ u.phase ≠ .receive → step s = .next u)

/-- Phase 6 (R167 to R170, in the order of R192), whatever bytes were received: marker, length, checksum, first failure wins; then UNS is
the unstuffed region and phase 7 follows. -/
def Obligations.VerifyPhase : Prop :=
  ∀ (s u : State) (rx : List Byte) (e : Nat) (sum : Word),
    s.nextMove = (.engine, u) → u.busy = true → u.ctx.xpend = false → u.phase = .verify →
    rx = u.ctx.rxb → e = u.ctx.expLen.toNat → rx.length = e → 11 ≤ e →
    sum = crc u.cfg.crcTable u.cfg.crcSeed (between rx u.cfg.crcFirst (e - 2)) →
      (rx.take 3 ≠ [0xFF, 0xFF, 0xFD] → step s = .next (endedWith u .framing .badMarker)) ∧
      (rx.take 3 = [0xFF, 0xFF, 0xFD] → (wordAt rx 5).toNat + 7 ≠ e → step s = .next (endedWith u .framing .badLength)) ∧
      (rx.take 3 = [0xFF, 0xFF, 0xFD] → (wordAt rx 5).toNat + 7 = e → sum ≠ le16 (byteAt rx (e - 2)) (byteAt rx (e - 1)) →
        step s = .next (endedWith { u with ctx := { u.ctx with crc := sum } } .checksum .badCrc)) ∧
      (rx.take 3 = [0xFF, 0xFF, 0xFD] → (wordAt rx 5).toNat + 7 = e → sum = le16 (byteAt rx (e - 2)) (byteAt rx (e - 1)) →
        ∃ um, step s = .next { u with
          ctx := { u.ctx with crc := sum, uns := unstuff (between rx 3 (e - 2)), um := um }, phase := .parse })

/-- Phase 7 (R171 to R175, in the order of R192): shortfall, then instruction, first failure wins; then the results, RBUF[i] being
UNS[6 + i] for every i below N, whatever the error byte and the id. -/
def Obligations.ParsePhase : Prop :=
  ∀ s u : State, s.nextMove = (.engine, u) → u.busy = true → u.ctx.xpend = false → u.phase = .parse →
    u.ctx.expLen.toNat = 11 + u.ctx.n.toNat →
    (u.ctx.uns.length ≠ u.ctx.expLen.toNat - 5 → step s = .next (endedWith u .framing .shortPayload)) ∧
    (u.ctx.uns.length = u.ctx.expLen.toNat - 5 → byteAt u.ctx.uns 4 ≠ 0x55 → step s = .next (endedWith u .framing .badInstr)) ∧
    (u.ctx.uns.length = u.ctx.expLen.toNat - 5 → byteAt u.ctx.uns 4 = 0x55 → ∃ rbuf : List Byte,
      step s = .next { u with
        resId := byteAt u.ctx.uns 1, resErr := byteAt u.ctx.uns 5, resPlen := u.ctx.n, rbuf := rbuf, resValid := true
        resStatus := .ok, resCause := .none, busy := false, phase := .idle, ctx := { u.ctx with xpend := false } } ∧
      u.ctx.n.toNat ≤ rbuf.length ∧ ∀ i < u.ctx.n.toNat, byteAt rbuf i = byteAt u.ctx.uns (6 + i))

/-- The transitions of PHASE (R13, R179): a step other than reset that changes PHASE takes a row of the table, with the status the row
writes when the command ends. -/
def Obligations.PhaseTransitions : Prop :=
  ∀ s t : State, SequencerInv s → step s = .next t → s.nextMove.1 ≠ .reset → t.phase ≠ s.phase → phaseRow s.phase t.phase t.resStatus

/-! ## Whole transactions -/

/-- Two engine turns from phase 6 are the one function `accept_status` (R132): they end the command with the status and the results it
gives, and leave the host's registers alone, and the request record, which is the model's (log 6); that the two turns are two steps of an
empty script is the model's choice (log 2). -/
def Obligations.AcceptanceRefinement : Prop :=
  ∀ s : State, s.script = [] → s.busy = true → s.ctx.xpend = false → s.phase = .verify →
    s.ctx.rxb.length = s.ctx.expLen.toNat → s.ctx.expLen.toNat = 11 + s.ctx.n.toNat →
    ∃ t, Sys2Proof.core.run 2 s = .next t ∧ resultsAre t s.cfg s.ctx.rxb s.ctx.n.toNat ∧ KeepsHostRegisters s t ∧ t.resTstat = s.resTstat ∧
      t.issued = s.issued

/-- An accepted PING, READ or WRITE and four engine turns (R148 to R158): the transport is asked for exactly the wire packet of the
operands that stood when CMD was written, or, when the stuffed length does not fit, for nothing at all. The record `issued` of the requests
(log 6) and the script of the moves (log 2) are the model's choices. -/
def Obligations.SendsTheFinalizedPacket : Prop :=
  ∀ (s : State) (op : Op) (code : Byte) (params : List Byte), Inv s → s.acceptable op → s.script = [.hostWrite 0x00 op.opcode] →
    s.commandPacket op = (code, params) →
    (params.length + 3 + stuffedBytes params ≤ 65535 →
      ∃ t, Sys2Proof.core.run 5 s = .next t ∧ t.issued = [.transmit (wirePacket s.cfg s.devId code params) s.txto] ∧
        t.phase = .transmit ∧ t.busy = true ∧ t.ctx.xpend = true ∧ KeepsHostRegisters s t) ∧
    (65535 < params.length + 3 + stuffedBytes params →
      ∃ t, Sys2Proof.core.run 5 s = .next t ∧ t.issued = [] ∧ t.phase = .idle ∧ t.busy = false ∧
        t.resStatus = .rejected ∧ t.resCause = .rejLenOverflow ∧ t.resValid = false ∧ KeepsHostRegisters s t)

/-- A whole command whose transport requests succeed (R149 to R151): for an individual id, one transmit request with the wire packet, one
receive request for 11 + N bytes, and the results that `accept_status` gives on the bytes received, whatever they are; for the broadcast
id, the transmit request alone, status OK and no reply. The record `issued` of the requests (log 6) and the script of the moves (log 2)
are the model's choices. -/
def Obligations.WholeTransaction : Prop :=
  ∀ (s : State) (op : Op) (code : Byte) (params rx : List Byte), Inv s → s.acceptable op → s.commandPacket op = (code, params) →
    params.length + 3 + stuffedBytes params ≤ 65535 → rx.length = 11 + s.commandExtra op →
    (s.devId ≠ 254 →
      s.script = [.hostWrite 0x00 op.opcode, .engine, .engine, .engine, .engine, .txAnswer 0, .engine, .rxAnswer 0 rx] →
      ∃ t, Sys2Proof.core.run 10 s = .next t ∧
        t.issued = [.transmit (wirePacket s.cfg s.devId code params) s.txto,
          .receive (BitVec.ofNat 16 (11 + s.commandExtra op)) s.rxto] ∧
        resultsAre t s.cfg rx (s.commandExtra op) ∧ t.resTstat = 0 ∧ KeepsHostRegisters s t) ∧
    (s.devId = 254 →
      s.script = [.hostWrite 0x00 op.opcode, .engine, .engine, .engine, .engine, .txAnswer 0] →
      ∃ t, Sys2Proof.core.run 6 s = .next t ∧
        t.issued = [.transmit (wirePacket s.cfg s.devId code params) s.txto] ∧
        t.busy = false ∧ t.phase = .idle ∧ t.resStatus = .ok ∧ t.resCause = .none ∧ t.resTstat = 0 ∧ t.resValid = false ∧
        KeepsHostRegisters s t)

/-- An engine bound to the broadcast id never asks the transport to receive (R166, R225). `issued` is the model's record of the requests
(log 6). -/
def Obligations.BroadcastNeverReceives : Prop :=
  ∀ s t : State, Inv s → s.hvalid = true → s.devId = 254 → step s = .next t →
    (∀ r ∈ s.issued, ∃ data timeout, r = .transmit data timeout) → ∀ r ∈ t.issued, ∃ data timeout, r = .transmit data timeout

/-- At most one transmit and then at most one receive in each command (R25, R53, R176). From every state of the invariant a step leaves the
requests such an exchange. It leaves them alone, or empties them while no command is in progress or at a reset, or adds the transmit
request in phase 4 of a command that has made none, or the receive request in phase 5 of one that has made the transmit. `issued` is the
model's record of the requests (log 6). -/
def Obligations.OneExchange : Prop :=
  ∀ s t : State, Inv s → step s = .next t →
    oneExchange t.issued ∧
    (t.issued = s.issued ∨
     (t.issued = [] ∧ (s.busy = false ∨ s.nextMove.1 = .reset)) ∨
     (s.busy = true ∧ s.phase = .transmit ∧ s.ctx.xpend = false ∧ t.ctx.xpend = true ∧
       s.issued = [] ∧ t.issued = [s.txRequest]) ∨
     (s.busy = true ∧ s.phase = .receive ∧ s.ctx.xpend = false ∧ t.ctx.xpend = true ∧
       s.issued = [s.txRequest] ∧ t.issued = [s.txRequest, s.rxRequest]))

/-- The endings (R178, R186, R187, R204): a step other than reset that clears BUSY leaves the registers of one row of the table, with the
requests the row counts (`issued`, the model's record, log 6), an idle engine, and the handle, the timeouts, the operands and PBUF as they
were. -/
def Obligations.EndingTable : Prop :=
  ∀ s t : State, Inv s → s.busy = true → step s = .next t → s.nextMove.1 ≠ .reset → t.busy = false →
    t.phase = .idle ∧ t.ctx.xpend = false ∧ KeepsHostRegisters s t ∧
    match t.resCause with
    | .rejLenOverflow => t.resStatus = .rejected ∧ t.resTstat = 0 ∧ t.resValid = false ∧ t.issued = []
    | .txFail => t.resStatus = .transport ∧ t.resTstat ≠ 0 ∧ t.resValid = false ∧ t.issued = [s.txRequest]
    | .rxFail => t.resStatus = .transport ∧ t.resTstat ≠ 0 ∧ t.resValid = false ∧ t.issued = [s.txRequest, s.rxRequest]
    | .badMarker => t.resStatus = .framing ∧ t.resTstat = 0 ∧ t.resValid = false ∧ t.issued = [s.txRequest, s.rxRequest]
    | .badLength => t.resStatus = .framing ∧ t.resTstat = 0 ∧ t.resValid = false ∧ t.issued = [s.txRequest, s.rxRequest]
    | .badCrc => t.resStatus = .checksum ∧ t.resTstat = 0 ∧ t.resValid = false ∧ t.issued = [s.txRequest, s.rxRequest]
    | .shortPayload => t.resStatus = .framing ∧ t.resTstat = 0 ∧ t.resValid = false ∧ t.issued = [s.txRequest, s.rxRequest]
    | .badInstr => t.resStatus = .framing ∧ t.resTstat = 0 ∧ t.resValid = false ∧ t.issued = [s.txRequest, s.rxRequest]
    | .none => t.resStatus = .ok ∧ t.resTstat = 0 ∧
        ((t.resValid = false ∧ s.ctx.id = 254 ∧ t.issued = [s.txRequest]) ∨
         (t.resValid = true ∧ s.ctx.id ≠ 254 ∧ t.issued = [s.txRequest, s.rxRequest]))
    | .rejNoHandle => False
    | .rejBadId => False
    | .rejPlenOverflow => False
    | .rejCountOverflow => False
    | .rejBadOpcode => False
    | .rejHandleBound => False

/-- Every command ends, if every request is answered (R180, R203): each move the command waits for takes a step that brings the end
nearer, so at most nine of them remain. -/
def Obligations.EveryMoveAdvances : Prop :=
  ∀ (s u : State) (m : Move), Inv s → s.busy = true → s.nextMove = (m, u) → u.awaited m = true →
    ∃ t, step s = .next t ∧ t.remaining < s.remaining ∧ s.remaining ≤ 9 ∧ (t.remaining = 0 → t.busy = false)

/-! ## Invariants -/

/-- The invariant holds right after reset, for any parameters that obey R6, any reset and any coming moves. -/
def Obligations.ResetMeetsInv : Prop :=
  Inv State.reset ∧ ∀ (c : Config) (era : Nat) (script : List Move), c.wf = true → Inv (State.afterReset c era script)

/-- Every step keeps the invariant of the engine: PHASE is 0 exactly when BUSY = 0 (R13), the handle is a legal id (R16), status and cause
belong together (R181), the results are clear while BUSY = 1 (R26), the context holds operands within the capacities (R147, R148), the
buffers hold what the phases before made of them (R51, R54), and the requests are one transmit and then at most one receive (R53, R176). -/
def Obligations.StepKeepsInv : Prop := ∀ s t : State, Inv s → step s = .next t → Inv t

/-- Every step keeps PBUF in its canonical form; the form is the model's (log 4). -/
def Obligations.PbufCanonicalKept : Prop :=
  ∀ s t : State, Memory.wf s.cfg.maxParams s.pbuf → step s = .next t → Memory.wf t.cfg.maxParams t.pbuf

/-- The machine goes on: from a state of the invariant, with a host that writes only while BUSY = 0 (R217) and a transport that keeps its
contract (R142), every step gives a next state, and HOSTERR does not rise (R14). -/
def Obligations.OrderlyStepsGoOn : Prop :=
  ∀ (s u : State) (m : Move), Inv s → s.nextMove = (m, u) → u.orderly m = true →
    ∃ t, step s = .next t ∧ (t.hosterr = true → s.hosterr = true)

/-- No buffer exceeds its capacity (R7, R48). -/
def Obligations.CapacitiesKept : Prop :=
  ∀ s : State, Inv s →
    (s.phase ≠ .idle ∧ s.phase ≠ .build → s.ctx.raw.length = 8 + s.ctx.p.toNat ∧ s.ctx.raw.length ≤ s.cfg.rawCap) ∧
    (s.phase = .checksum ∨ s.phase = .transmit ∨ s.phase = .receive ∨ s.phase = .verify ∨ s.phase = .parse →
      s.ctx.wire.length ≤ 10 + s.cfg.maxParams + s.cfg.maxParams / 3 ∧ s.ctx.wire.length ≤ s.cfg.wireCap) ∧
    (s.phase = .verify ∨ s.phase = .parse → s.ctx.rxb.length = s.ctx.expLen.toNat ∧ s.ctx.rxb.length ≤ s.cfg.rxCap) ∧
    (s.phase = .parse → s.ctx.uns.length ≤ s.ctx.expLen.toNat - 5 ∧ s.ctx.uns.length ≤ s.cfg.unsCap)

/-! ## Who may change what -/

/-- The handle (R16, R57): no step but reset changes a bound DEV_ID or clears HVALID, and only INIT binds, to ARG_ID. -/
def Obligations.HandleImmutable : Prop :=
  ∀ (s u t : State) (m : Move), s.nextMove = (m, u) → m ≠ .reset → step s = .next t →
    (s.hvalid = true → t.hvalid = true ∧ t.devId = s.devId) ∧
    (s.hvalid = false → t.hvalid = true ∨ t.devId ≠ s.devId →
      t.hvalid = true ∧ t.devId = s.argId ∧ s.busy = false ∧ ∃ v, m = .hostWrite 0x00 v ∧ lo8 v = 0x00)

/-- HOSTERR (R14, R17): sticky against everything but reset, and raised by nothing but a host write while BUSY = 1. -/
def Obligations.HostErrSticky : Prop :=
  ∀ (s u t : State) (m : Move), s.nextMove = (m, u) → m ≠ .reset → step s = .next t →
    (s.hosterr = true → t.hosterr = true) ∧
    (s.hosterr = false → t.hosterr = true → s.busy = true ∧ ∃ n v, m = .hostWrite n v)

/-- The host's registers (R18, R19, R20): no step but a host write to a register other than CMD, or reset, changes the timeouts, the
operands or a byte of PBUF. -/
def Obligations.EngineNeverWritesOperands : Prop :=
  ∀ (s u t : State) (m : Move), s.nextMove = (m, u) → m ≠ .reset → (∀ n v, m = .hostWrite n v → n = 0x00) → step s = .next t →
    t.txto = s.txto ∧ t.rxto = s.rxto ∧ t.argId = s.argId ∧ t.argAddr = s.argAddr ∧ t.argCount = s.argCount ∧
    t.argPlen = s.argPlen ∧ t.cfg = s.cfg ∧ ∀ i, t.pbufByte i = s.pbufByte i

/-- The result gate (R22): while RES_VALID = 0 no host read depends on what is behind the gate, and all of it reads 0; while RES_VALID = 1
the cells of RBUF at and beyond RES_PLEN read 0; and only a successful PARSE, which sets RES_VALID, or reset changes what is behind it. -/
def Obligations.ResultGate : Prop :=
  (∀ (s s' : State) (n : Nat), s.resValid = false →
    s' = { s with resId := s'.resId, resErr := s'.resErr, resPlen := s'.resPlen, rbuf := s'.rbuf } → s'.readReg n = s.readReg n) ∧
  (∀ s : State, s.resValid = false → s.cfg.wf = true →
    s.readReg 0x0C = 0 ∧ s.readReg 0x0D = 0 ∧ s.readReg 0x0E = 0 ∧ ∀ i < s.cfg.maxRead, s.readReg (0x20000 + i) = 0) ∧
  (∀ (s : State) (i : Nat), s.resValid = true → i < s.cfg.maxRead → s.cfg.wf = true →
    s.readReg 0x0C = s.resId.setWidth 16 ∧ s.readReg 0x0D = s.resErr.setWidth 16 ∧ s.readReg 0x0E = s.resPlen ∧
    (i < s.resPlen.toNat → s.readReg (0x20000 + i) = (byteAt s.rbuf i).setWidth 16) ∧
    (s.resPlen.toNat ≤ i → s.readReg (0x20000 + i) = 0)) ∧
  (∀ (s u t : State) (m : Move), s.nextMove = (m, u) → m ≠ .reset → step s = .next t →
    ¬(t.resId = s.resId ∧ t.resErr = s.resErr ∧ t.resPlen = s.resPlen ∧ t.rbuf = s.rbuf) →
    s.phase = .parse ∧ t.phase = .idle ∧ t.resValid = true ∧ t.resStatus = .ok)

/-! ## The register file -/

/-- A host write to a writable register while BUSY = 0 (R11, R18, R19, R20): the register reads back the value, cut to its width, and
every other register reads as before. -/
def Obligations.RegisterReadBack : Prop :=
  ∀ (s u : State) (n : Nat) (v : Word), s.nextMove = (.hostWrite n v, u) → u.busy = false →
    (n ∈ [0x03, 0x04, 0x06, 0x07, 0x08] →
      ∃ t, step s = .next t ∧ t.readReg n = v ∧ ∀ m, m ≠ n → t.readReg m = s.readReg m) ∧
    (n = 0x05 ∨ (0x10000 ≤ n ∧ n < 0x10000 + s.cfg.maxParams) →
      ∃ t, step s = .next t ∧ t.readReg n = (lo8 v).setWidth 16 ∧ ∀ m, m ≠ n → t.readReg m = s.readReg m)

/-- A host write to a read-only or unassigned number while BUSY = 0 has no effect and no error, and CMD and unassigned numbers read 0
(R27). -/
def Obligations.DiscardedWrites : Prop :=
  (∀ (s u : State) (n : Nat) (v : Word), s.nextMove = (.hostWrite n v, u) → u.busy = false →
    (n ∈ [0x01, 0x02, 0x09, 0x0A, 0x0B, 0x0C, 0x0D, 0x0E, 0x0F] ∨ (0x0F < n ∧ n < 0x10000) ∨ 0x10000 + s.cfg.maxParams ≤ n) →
    step s = .next u) ∧
  (∀ (s : State) (n : Nat), (n = 0x00 ∨ (0x0F < n ∧ n < 0x10000) ∨ (0x10000 + s.cfg.maxParams ≤ n ∧ n < 0x20000) ∨
    (0x20000 + s.cfg.maxRead ≤ n ∧ 0x10000 + s.cfg.maxParams ≤ n)) → s.readReg n = 0)

/-- A host read (R26, R46): it changes nothing (the word read goes to the model's own data-path latch, log 5) and never faults, at any
time; while BUSY = 1 the status, cause, transport status and gated results read 0. -/
def Obligations.HostReads : Prop :=
  (∀ (s u : State) (n : Nat), s.nextMove = (.hostRead n, u) → step s = .next { u with rdata := s.readReg n }) ∧
  (∀ s : State, Inv s → s.busy = true →
    (∀ n ∈ [0x09, 0x0A, 0x0B, 0x0C, 0x0D, 0x0E], s.readReg n = 0) ∧ (∀ i < s.cfg.maxRead, s.readReg (0x20000 + i) = 0) ∧
    s.readReg 0x01 = (if s.hosterr then 0x0B else 0x03))

/-- Reset (R31, R210, R212): at any time, whatever the phase, every register takes its reset value, and so they stand in the state after
power-on; then the engine is idle, and neither its turn nor a late answer moves it. -/
def Obligations.ResetValues : Prop :=
  (∀ t : State, (t = State.reset ∨ ∃ s u : State, s.nextMove = (.reset, u) ∧ step s = .next t) →
    t.busy = false ∧ t.hvalid = false ∧ t.resValid = false ∧ t.hosterr = false ∧ t.statWord = 0x00 ∧ t.phase = .idle ∧
    t.devId = 0x00 ∧ t.txto = t.cfg.defaultTimeout ∧ t.rxto = t.cfg.defaultTimeout ∧ t.argId = 0 ∧ t.argAddr = 0 ∧ t.argCount = 0 ∧
    t.argPlen = 0 ∧ t.resStatus.code = 0 ∧ t.resCause.code = 0 ∧ t.resTstat = 0 ∧ t.ctx.xpend = false ∧ t.ctx.sm = .zero ∧
    t.ctx.um = .zero ∧ (∀ n ∈ [0x0C, 0x0D, 0x0E], t.readReg n = 0) ∧
    (t.cfg.wf = true → ∀ i < t.cfg.maxRead, t.readReg (0x20000 + i) = 0) ∧
    (∀ u : State, (t.nextMove = (.engine, u) ∨ (∃ x, t.nextMove = (.txAnswer x, u)) ∨ (∃ x r, t.nextMove = (.rxAnswer x r, u))) →
      step t = .next u)) ∧
  State.reset.txto = 50 ∧ State.reset.rxto = 50 ∧
  (∀ s u : State, s.nextMove = (.reset, u) → ∃ t, step s = .next t ∧ t.cfg = s.cfg)
end

