-- ==== Sys2Proof/Laws/Bytes.lean ====
section
/-! SUPPORT. Byte order and substrings: what `lo8`, `hi8`, `le16`, `between` and `byteAt` do. -/

namespace Sys2Proof.Machine

@[simp] theorem le16_lo8_hi8 (v : Word) : le16 (lo8 v) (hi8 v) = v := by
  apply BitVec.eq_of_getLsbD_eq
  intro i hi
  have : i < 8 ∨ 8 ≤ i := by omega
  rcases this with h | h
  · simp [le16, lo8, hi8, h]; omega
  · simp [le16, lo8, hi8, h, hi, show ¬ i < 8 by omega, show i - 8 < 8 by omega, show 8 + (i - 8) = i by omega]

@[simp] theorem lo8_le16 (a b : Byte) : lo8 (le16 a b) = a := by
  apply BitVec.eq_of_getLsbD_eq
  intro i hi
  simp [le16, lo8, hi]

@[simp] theorem hi8_le16 (a b : Byte) : hi8 (le16 a b) = b := by
  apply BitVec.eq_of_getLsbD_eq
  intro i hi
  simp [le16, hi8, hi, show ¬ 8 + i < 8 by omega, show 8 + i < 16 by omega]

@[simp] theorem length_between (x : List Byte) (a e : Nat) : (between x a e).length = min e x.length - a := by
  simp [between]

@[simp] theorem byteAt_cons_zero (b : Byte) (x : List Byte) : byteAt (b :: x) 0 = b := rfl

@[simp] theorem byteAt_cons_succ (b : Byte) (x : List Byte) (i : Nat) : byteAt (b :: x) (i + 1) = byteAt x i := rfl

@[simp] theorem length_packetHeader (id : Byte) (len : Word) (code : Byte) : (packetHeader id len code).length = 8 := rfl

@[simp] theorem length_rawPacket (id : Byte) (len : Word) (code : Byte) (params : List Byte) :
    (rawPacket id len code params).length = 8 + params.length := by
  simp [rawPacket]

@[simp] theorem length_crcAppend (c : Config) (pkt : List Byte) : (crcAppend c pkt).length = pkt.length + 2 := by
  simp [crcAppend]

@[simp] theorem length_setLength (pkt : List Byte) (len : Nat) : (setLength pkt len).length = pkt.length := by
  simp [setLength]

/-- The two bytes that `setLength` writes read back as the length (R62). -/
theorem wordAt_setLength (pkt : List Byte) (len : Nat) (h : 7 ≤ pkt.length) :
    wordAt (setLength pkt len) 5 = BitVec.ofNat 16 len := by
  have h5 : 5 < pkt.length := by omega
  have h6 : 6 < pkt.length := by omega
  simp [wordAt, byteAt, setLength, h5, h6]

end Sys2Proof.Machine
end

