-- ==== Sys2Proof/Laws/Crc.lean ====
section
/-! SUPPORT. The checksum on the empty range and on one more byte. -/

namespace Sys2Proof.Machine

/-- "crc(seed, []) = seed" (R92). -/
@[simp] theorem crc_nil (table : List Word) (seed : Word) : crc table seed [] = seed := rfl

@[simp] theorem crc_cons (table : List Word) (seed : Word) (b : Byte) (x : List Byte) :
    crc table seed (b :: x) = crc table (crcStep table seed b) x := rfl

end Sys2Proof.Machine
end

