-- ==== Sys2Proof/Laws/Decode.lean ====
section
/-! SUPPORT. The decoder port by port, and what a decoded status header looks like. -/

namespace Sys2Proof

@[simp] theorem decode_packet (c : Config) (bytes : List Byte) : decode c .packet bytes = decodePacket c bytes := by
  cases bytes <;> rfl

/-- A CMD value, value by value (R74). -/
theorem decode_command (c : Config) (v : Byte) :
    decode c .command [v] =
      if v = 0x00#8 then .ok (.init, [])
      else if v = 0x01#8 then .ok (.ping, [])
      else if v = 0x02#8 then .ok (.read, [])
      else if v = 0x03#8 then .ok (.write, [])
      else .error .unknownOpcode := by
  simp only [decode, decodeCommand]
  (repeat' split) <;> simp_all [Except.map]

/-- A decoded status packet is its header and the bytes after it (R69, R76). -/
theorem bytes_of_decodePacket_status {c : Config} {bytes rest : List Byte} {id : Byte} {len : Word}
    (h : decodePacket c bytes = .ok (.statusPkt id len, rest)) :
    ∃ lL lH, len = Machine.le16 lL lH ∧
      bytes = Machine.mark1 :: Machine.mark1 :: Machine.mark2 :: Machine.reserved :: id :: lL :: lH :: Machine.instrStatus :: rest := by
  unfold decodePacket at h
  (repeat' split at h) <;> simp only [reduceCtorEq, Except.ok.injEq, Prod.mk.injEq, Instr.statusPkt.injEq, false_and] at h
  rename_i hm hr _ _ _ hs
  push Not at hm hr
  obtain ⟨⟨hid, hlen⟩, hrest⟩ := h
  exact ⟨_, _, hlen.symm, by rw [hm.1, hm.2.1, hm.2.2, hr, hs, hid, hrest]⟩

/-- What a decoded packet looks like: its marker, its reserved byte and one of the four instruction codes (R60, R65, R76). -/
theorem bytes_of_decodePacket {c : Config} {bytes : List Byte} {r : Instr × List Byte} (h : decodePacket c bytes = .ok r) :
    ∃ id lL lH code, bytes =
        Machine.mark1 :: Machine.mark1 :: Machine.mark2 :: Machine.reserved :: id :: lL :: lH :: code :: r.2 ∧
      (code = c.instrPing ∨ code = c.instrRead ∨ code = c.instrWrite ∨ code = Machine.instrStatus) := by
  unfold decodePacket at h
  (repeat' split at h) <;> simp only [reduceCtorEq, Except.ok.injEq] at h
  all_goals
    rename_i hm hr _
    subst h
    simp_all

/-- No eight bytes are a packet header both ways round, so a table number has one reading at most (log 10). -/
theorem headerReadings_exclude {bytes : List Byte} {r : Instr × List Byte}
    (h : decodePacket Machine.defaultConfig bytes = .ok r) (h8 : bytes.length = 8) :
    ∃ e, decodePacket Machine.defaultConfig bytes.reverse = .error e := by
  obtain ⟨id, lL, lH, code, hb, hc⟩ := bytes_of_decodePacket h
  have hr : r.2 = [] := by
    have := congrArg List.length hb
    simp [h8] at this
    exact this
  subst hb
  rw [hr]
  refine ⟨.badMarker, ?_⟩
  rcases hc with rfl | rfl | rfl | rfl <;> simp [decodePacket, Machine.mark1, Machine.defaultConfig, Machine.instrStatus]

end Sys2Proof
end

