-- ==== Sys2Proof/Laws/Memory.lean ====
section
/-! SUPPORT. The PBUF store: a read after a write, and the canonical form that every write keeps (log 4). -/

namespace Sys2Proof.Machine

@[simp] theorem Memory.read?_write_same (a : Nat) (v : Byte) (m : Memory) :
    Memory.read? a (Memory.write a v m) = some v := by
  induction m with
  | nil => simp [Memory.write, Memory.read?]
  | cons e m ih =>
    simp only [Memory.write]
    split
    · simp [Memory.read?]
    · split
      · simp [Memory.read?]
      · simp [Memory.read?, show ¬ e.1 = a by omega, ih]

theorem Memory.read?_write_other (a b : Nat) (v : Byte) (m : Memory) (h : a ≠ b) :
    Memory.read? a (Memory.write b v m) = Memory.read? a m := by
  induction m with
  | nil => simp [Memory.write, Memory.read?, h.symm]
  | cons e m ih =>
    simp only [Memory.write]
    split
    · simp [Memory.read?, h.symm]
    · split
      · rename_i _ hb
        simp [Memory.read?, h.symm, ← hb]
      · simp [Memory.read?, ih]

theorem Memory.mem_write {a : Nat} {v : Byte} {m : Memory} {e : Host.Cell} (h : e ∈ Memory.write a v m) :
    e = (a, v) ∨ e ∈ m := by
  induction m with
  | nil => simp_all [Memory.write]
  | cons d m ih =>
    simp only [Memory.write] at h
    split at h
    · simpa using h
    · split at h
      · rcases List.mem_cons.1 h with h | h
        · exact .inl h
        · exact .inr (List.mem_cons_of_mem _ h)
      · rcases List.mem_cons.1 h with h | h
        · exact .inr (h ▸ List.mem_cons_self)
        · exact (ih h).imp id (List.mem_cons_of_mem _)

theorem Memory.write_rising (a : Nat) (v : Byte) (m : Memory) (h : m.Pairwise (fun a b => a.1 < b.1)) :
    (Memory.write a v m).Pairwise (fun a b => a.1 < b.1) := by
  induction m with
  | nil => simp [Memory.write]
  | cons d m ih =>
    have hd := List.pairwise_cons.1 h
    simp only [Memory.write]
    split
    · rename_i had
      refine List.pairwise_cons.2 ⟨fun e he => ?_, h⟩
      rcases List.mem_cons.1 he with he | he
      · simpa [he] using had
      · exact Nat.lt_trans had (hd.1 e he)
    · split
      · rename_i _ had
        exact List.pairwise_cons.2 ⟨fun e he => had ▸ hd.1 e he, hd.2⟩
      · refine List.pairwise_cons.2 ⟨fun e he => ?_, ih hd.2⟩
        rcases Memory.mem_write he with he | he
        · rw [he]; show d.1 < a; omega
        · exact hd.1 e he

/-- Every write of a cell of the store keeps the canonical form. -/
theorem Memory.write_wf (size a : Nat) (v : Byte) (m : Memory) (ha : a < size) (h : Memory.wf size m) :
    Memory.wf size (Memory.write a v m) := by
  refine ⟨Memory.write_rising a v m h.1, fun e he => ?_⟩
  rcases Memory.mem_write he with he | he
  · rw [he]; exact ha
  · exact h.2 e he

/-- The empty store is in canonical form. -/
theorem Memory.nil_wf (size : Nat) : Memory.wf size [] := ⟨List.Pairwise.nil, by simp⟩

end Sys2Proof.Machine
end

