-- ==== Sys2Proof/Laws/State.lean ====
section
/-! SUPPORT. What each update of the state does to each field, so that no proof unfolds a record update. -/

namespace Sys2Proof.Machine

@[simp] theorem State.raise_cfg (s : State) (c : Cause) : (s.raise c).cfg = s.cfg := rfl
@[simp] theorem State.raise_busy (s : State) (c : Cause) : (s.raise c).busy = false := rfl
@[simp] theorem State.raise_hvalid (s : State) (c : Cause) : (s.raise c).hvalid = s.hvalid := rfl
@[simp] theorem State.raise_resValid (s : State) (c : Cause) : (s.raise c).resValid = false := rfl
@[simp] theorem State.raise_hosterr (s : State) (c : Cause) : (s.raise c).hosterr = s.hosterr := rfl
@[simp] theorem State.raise_phase (s : State) (c : Cause) : (s.raise c).phase = .idle := rfl
@[simp] theorem State.raise_devId (s : State) (c : Cause) : (s.raise c).devId = s.devId := rfl
@[simp] theorem State.raise_txto (s : State) (c : Cause) : (s.raise c).txto = s.txto := rfl
@[simp] theorem State.raise_rxto (s : State) (c : Cause) : (s.raise c).rxto = s.rxto := rfl
@[simp] theorem State.raise_argId (s : State) (c : Cause) : (s.raise c).argId = s.argId := rfl
@[simp] theorem State.raise_argAddr (s : State) (c : Cause) : (s.raise c).argAddr = s.argAddr := rfl
@[simp] theorem State.raise_argCount (s : State) (c : Cause) : (s.raise c).argCount = s.argCount := rfl
@[simp] theorem State.raise_argPlen (s : State) (c : Cause) : (s.raise c).argPlen = s.argPlen := rfl
@[simp] theorem State.raise_resStatus (s : State) (c : Cause) : (s.raise c).resStatus = c.status := rfl
@[simp] theorem State.raise_resCause (s : State) (c : Cause) : (s.raise c).resCause = c := rfl
@[simp] theorem State.raise_resTstat (s : State) (c : Cause) : (s.raise c).resTstat = s.resTstat := rfl
@[simp] theorem State.raise_resId (s : State) (c : Cause) : (s.raise c).resId = s.resId := rfl
@[simp] theorem State.raise_resErr (s : State) (c : Cause) : (s.raise c).resErr = s.resErr := rfl
@[simp] theorem State.raise_resPlen (s : State) (c : Cause) : (s.raise c).resPlen = s.resPlen := rfl
@[simp] theorem State.raise_rbuf (s : State) (c : Cause) : (s.raise c).rbuf = s.rbuf := rfl
@[simp] theorem State.raise_pbuf (s : State) (c : Cause) : (s.raise c).pbuf = s.pbuf := rfl
@[simp] theorem State.raise_ctx (s : State) (c : Cause) : (s.raise c).ctx = { s.ctx with xpend := false } := rfl
@[simp] theorem State.raise_era (s : State) (c : Cause) : (s.raise c).era = s.era := rfl
@[simp] theorem State.raise_script (s : State) (c : Cause) : (s.raise c).script = s.script := rfl
@[simp] theorem State.raise_issued (s : State) (c : Cause) : (s.raise c).issued = s.issued := rfl
@[simp] theorem State.raise_rdata (s : State) (c : Cause) : (s.raise c).rdata = s.rdata := rfl

@[simp] theorem State.completeOk_cfg (s : State) : s.completeOk.cfg = s.cfg := rfl
@[simp] theorem State.completeOk_busy (s : State) : s.completeOk.busy = false := rfl
@[simp] theorem State.completeOk_hvalid (s : State) : s.completeOk.hvalid = s.hvalid := rfl
@[simp] theorem State.completeOk_resValid (s : State) : s.completeOk.resValid = s.resValid := rfl
@[simp] theorem State.completeOk_hosterr (s : State) : s.completeOk.hosterr = s.hosterr := rfl
@[simp] theorem State.completeOk_phase (s : State) : s.completeOk.phase = .idle := rfl
@[simp] theorem State.completeOk_devId (s : State) : s.completeOk.devId = s.devId := rfl
@[simp] theorem State.completeOk_txto (s : State) : s.completeOk.txto = s.txto := rfl
@[simp] theorem State.completeOk_rxto (s : State) : s.completeOk.rxto = s.rxto := rfl
@[simp] theorem State.completeOk_argId (s : State) : s.completeOk.argId = s.argId := rfl
@[simp] theorem State.completeOk_argAddr (s : State) : s.completeOk.argAddr = s.argAddr := rfl
@[simp] theorem State.completeOk_argCount (s : State) : s.completeOk.argCount = s.argCount := rfl
@[simp] theorem State.completeOk_argPlen (s : State) : s.completeOk.argPlen = s.argPlen := rfl
@[simp] theorem State.completeOk_resStatus (s : State) : s.completeOk.resStatus = .ok := rfl
@[simp] theorem State.completeOk_resCause (s : State) : s.completeOk.resCause = .none := rfl
@[simp] theorem State.completeOk_resTstat (s : State) : s.completeOk.resTstat = s.resTstat := rfl
@[simp] theorem State.completeOk_resId (s : State) : s.completeOk.resId = s.resId := rfl
@[simp] theorem State.completeOk_resErr (s : State) : s.completeOk.resErr = s.resErr := rfl
@[simp] theorem State.completeOk_resPlen (s : State) : s.completeOk.resPlen = s.resPlen := rfl
@[simp] theorem State.completeOk_rbuf (s : State) : s.completeOk.rbuf = s.rbuf := rfl
@[simp] theorem State.completeOk_pbuf (s : State) : s.completeOk.pbuf = s.pbuf := rfl
@[simp] theorem State.completeOk_ctx (s : State) : s.completeOk.ctx = { s.ctx with xpend := false } := rfl
@[simp] theorem State.completeOk_era (s : State) : s.completeOk.era = s.era := rfl
@[simp] theorem State.completeOk_script (s : State) : s.completeOk.script = s.script := rfl
@[simp] theorem State.completeOk_issued (s : State) : s.completeOk.issued = s.issued := rfl
@[simp] theorem State.completeOk_rdata (s : State) : s.completeOk.rdata = s.rdata := rfl

@[simp] theorem State.accept_cfg (s : State) : s.accept.cfg = s.cfg := rfl
@[simp] theorem State.accept_busy (s : State) : s.accept.busy = s.busy := rfl
@[simp] theorem State.accept_hvalid (s : State) : s.accept.hvalid = s.hvalid := rfl
@[simp] theorem State.accept_resValid (s : State) : s.accept.resValid = false := rfl
@[simp] theorem State.accept_hosterr (s : State) : s.accept.hosterr = s.hosterr := rfl
@[simp] theorem State.accept_phase (s : State) : s.accept.phase = s.phase := rfl
@[simp] theorem State.accept_devId (s : State) : s.accept.devId = s.devId := rfl
@[simp] theorem State.accept_txto (s : State) : s.accept.txto = s.txto := rfl
@[simp] theorem State.accept_rxto (s : State) : s.accept.rxto = s.rxto := rfl
@[simp] theorem State.accept_argId (s : State) : s.accept.argId = s.argId := rfl
@[simp] theorem State.accept_argAddr (s : State) : s.accept.argAddr = s.argAddr := rfl
@[simp] theorem State.accept_argCount (s : State) : s.accept.argCount = s.argCount := rfl
@[simp] theorem State.accept_argPlen (s : State) : s.accept.argPlen = s.argPlen := rfl
@[simp] theorem State.accept_resStatus (s : State) : s.accept.resStatus = .ok := rfl
@[simp] theorem State.accept_resCause (s : State) : s.accept.resCause = .none := rfl
@[simp] theorem State.accept_resTstat (s : State) : s.accept.resTstat = 0x00#8 := rfl
@[simp] theorem State.accept_resId (s : State) : s.accept.resId = s.resId := rfl
@[simp] theorem State.accept_resErr (s : State) : s.accept.resErr = s.resErr := rfl
@[simp] theorem State.accept_resPlen (s : State) : s.accept.resPlen = s.resPlen := rfl
@[simp] theorem State.accept_rbuf (s : State) : s.accept.rbuf = s.rbuf := rfl
@[simp] theorem State.accept_pbuf (s : State) : s.accept.pbuf = s.pbuf := rfl
@[simp] theorem State.accept_ctx (s : State) : s.accept.ctx = Ctx.cleared := rfl
@[simp] theorem State.accept_era (s : State) : s.accept.era = s.era := rfl
@[simp] theorem State.accept_script (s : State) : s.accept.script = s.script := rfl
@[simp] theorem State.accept_issued (s : State) : s.accept.issued = [] := rfl
@[simp] theorem State.accept_rdata (s : State) : s.accept.rdata = s.rdata := rfl

@[simp] theorem State.hostError_cfg (s : State) : s.hostError.cfg = s.cfg := rfl
@[simp] theorem State.hostError_busy (s : State) : s.hostError.busy = s.busy := rfl
@[simp] theorem State.hostError_hvalid (s : State) : s.hostError.hvalid = s.hvalid := rfl
@[simp] theorem State.hostError_resValid (s : State) : s.hostError.resValid = s.resValid := rfl
@[simp] theorem State.hostError_hosterr (s : State) : s.hostError.hosterr = true := rfl
@[simp] theorem State.hostError_phase (s : State) : s.hostError.phase = s.phase := rfl
@[simp] theorem State.hostError_devId (s : State) : s.hostError.devId = s.devId := rfl
@[simp] theorem State.hostError_txto (s : State) : s.hostError.txto = s.txto := rfl
@[simp] theorem State.hostError_rxto (s : State) : s.hostError.rxto = s.rxto := rfl
@[simp] theorem State.hostError_argId (s : State) : s.hostError.argId = s.argId := rfl
@[simp] theorem State.hostError_argAddr (s : State) : s.hostError.argAddr = s.argAddr := rfl
@[simp] theorem State.hostError_argCount (s : State) : s.hostError.argCount = s.argCount := rfl
@[simp] theorem State.hostError_argPlen (s : State) : s.hostError.argPlen = s.argPlen := rfl
@[simp] theorem State.hostError_resStatus (s : State) : s.hostError.resStatus = s.resStatus := rfl
@[simp] theorem State.hostError_resCause (s : State) : s.hostError.resCause = s.resCause := rfl
@[simp] theorem State.hostError_resTstat (s : State) : s.hostError.resTstat = s.resTstat := rfl
@[simp] theorem State.hostError_resId (s : State) : s.hostError.resId = s.resId := rfl
@[simp] theorem State.hostError_resErr (s : State) : s.hostError.resErr = s.resErr := rfl
@[simp] theorem State.hostError_resPlen (s : State) : s.hostError.resPlen = s.resPlen := rfl
@[simp] theorem State.hostError_rbuf (s : State) : s.hostError.rbuf = s.rbuf := rfl
@[simp] theorem State.hostError_pbuf (s : State) : s.hostError.pbuf = s.pbuf := rfl
@[simp] theorem State.hostError_ctx (s : State) : s.hostError.ctx = s.ctx := rfl
@[simp] theorem State.hostError_era (s : State) : s.hostError.era = s.era := rfl
@[simp] theorem State.hostError_script (s : State) : s.hostError.script = s.script := rfl
@[simp] theorem State.hostError_issued (s : State) : s.hostError.issued = s.issued := rfl
@[simp] theorem State.hostError_rdata (s : State) : s.hostError.rdata = s.rdata := rfl

@[simp] theorem State.start_cfg (s : State) (op : Op) (p addr n : Word) : (s.start op p addr n).cfg = s.cfg := rfl
@[simp] theorem State.start_busy (s : State) (op : Op) (p addr n : Word) : (s.start op p addr n).busy = true := rfl
@[simp] theorem State.start_hvalid (s : State) (op : Op) (p addr n : Word) : (s.start op p addr n).hvalid = s.hvalid := rfl
@[simp] theorem State.start_resValid (s : State) (op : Op) (p addr n : Word) : (s.start op p addr n).resValid = s.resValid := rfl
@[simp] theorem State.start_hosterr (s : State) (op : Op) (p addr n : Word) : (s.start op p addr n).hosterr = s.hosterr := rfl
@[simp] theorem State.start_phase (s : State) (op : Op) (p addr n : Word) : (s.start op p addr n).phase = .build := rfl
@[simp] theorem State.start_devId (s : State) (op : Op) (p addr n : Word) : (s.start op p addr n).devId = s.devId := rfl
@[simp] theorem State.start_txto (s : State) (op : Op) (p addr n : Word) : (s.start op p addr n).txto = s.txto := rfl
@[simp] theorem State.start_rxto (s : State) (op : Op) (p addr n : Word) : (s.start op p addr n).rxto = s.rxto := rfl
@[simp] theorem State.start_argId (s : State) (op : Op) (p addr n : Word) : (s.start op p addr n).argId = s.argId := rfl
@[simp] theorem State.start_argAddr (s : State) (op : Op) (p addr n : Word) : (s.start op p addr n).argAddr = s.argAddr := rfl
@[simp] theorem State.start_argCount (s : State) (op : Op) (p addr n : Word) : (s.start op p addr n).argCount = s.argCount := rfl
@[simp] theorem State.start_argPlen (s : State) (op : Op) (p addr n : Word) : (s.start op p addr n).argPlen = s.argPlen := rfl
@[simp] theorem State.start_resStatus (s : State) (op : Op) (p addr n : Word) : (s.start op p addr n).resStatus = s.resStatus := rfl
@[simp] theorem State.start_resCause (s : State) (op : Op) (p addr n : Word) : (s.start op p addr n).resCause = s.resCause := rfl
@[simp] theorem State.start_resTstat (s : State) (op : Op) (p addr n : Word) : (s.start op p addr n).resTstat = s.resTstat := rfl
@[simp] theorem State.start_resId (s : State) (op : Op) (p addr n : Word) : (s.start op p addr n).resId = s.resId := rfl
@[simp] theorem State.start_resErr (s : State) (op : Op) (p addr n : Word) : (s.start op p addr n).resErr = s.resErr := rfl
@[simp] theorem State.start_resPlen (s : State) (op : Op) (p addr n : Word) : (s.start op p addr n).resPlen = s.resPlen := rfl
@[simp] theorem State.start_rbuf (s : State) (op : Op) (p addr n : Word) : (s.start op p addr n).rbuf = s.rbuf := rfl
@[simp] theorem State.start_pbuf (s : State) (op : Op) (p addr n : Word) : (s.start op p addr n).pbuf = s.pbuf := rfl
@[simp] theorem State.start_ctx (s : State) (op : Op) (p addr n : Word) : (s.start op p addr n).ctx = { s.ctx with op := op, id := s.devId, p := p, addr := addr, n := n, expLen := expectedLen n } := rfl
@[simp] theorem State.start_era (s : State) (op : Op) (p addr n : Word) : (s.start op p addr n).era = s.era := rfl
@[simp] theorem State.start_script (s : State) (op : Op) (p addr n : Word) : (s.start op p addr n).script = s.script := rfl
@[simp] theorem State.start_issued (s : State) (op : Op) (p addr n : Word) : (s.start op p addr n).issued = s.issued := rfl
@[simp] theorem State.start_rdata (s : State) (op : Op) (p addr n : Word) : (s.start op p addr n).rdata = s.rdata := rfl

@[simp] theorem State.built_cfg (s : State) (raw : List Byte) : (s.built raw).cfg = s.cfg := rfl
@[simp] theorem State.built_busy (s : State) (raw : List Byte) : (s.built raw).busy = s.busy := rfl
@[simp] theorem State.built_hvalid (s : State) (raw : List Byte) : (s.built raw).hvalid = s.hvalid := rfl
@[simp] theorem State.built_resValid (s : State) (raw : List Byte) : (s.built raw).resValid = s.resValid := rfl
@[simp] theorem State.built_hosterr (s : State) (raw : List Byte) : (s.built raw).hosterr = s.hosterr := rfl
@[simp] theorem State.built_phase (s : State) (raw : List Byte) : (s.built raw).phase = .stuff := rfl
@[simp] theorem State.built_devId (s : State) (raw : List Byte) : (s.built raw).devId = s.devId := rfl
@[simp] theorem State.built_txto (s : State) (raw : List Byte) : (s.built raw).txto = s.txto := rfl
@[simp] theorem State.built_rxto (s : State) (raw : List Byte) : (s.built raw).rxto = s.rxto := rfl
@[simp] theorem State.built_argId (s : State) (raw : List Byte) : (s.built raw).argId = s.argId := rfl
@[simp] theorem State.built_argAddr (s : State) (raw : List Byte) : (s.built raw).argAddr = s.argAddr := rfl
@[simp] theorem State.built_argCount (s : State) (raw : List Byte) : (s.built raw).argCount = s.argCount := rfl
@[simp] theorem State.built_argPlen (s : State) (raw : List Byte) : (s.built raw).argPlen = s.argPlen := rfl
@[simp] theorem State.built_resStatus (s : State) (raw : List Byte) : (s.built raw).resStatus = s.resStatus := rfl
@[simp] theorem State.built_resCause (s : State) (raw : List Byte) : (s.built raw).resCause = s.resCause := rfl
@[simp] theorem State.built_resTstat (s : State) (raw : List Byte) : (s.built raw).resTstat = s.resTstat := rfl
@[simp] theorem State.built_resId (s : State) (raw : List Byte) : (s.built raw).resId = s.resId := rfl
@[simp] theorem State.built_resErr (s : State) (raw : List Byte) : (s.built raw).resErr = s.resErr := rfl
@[simp] theorem State.built_resPlen (s : State) (raw : List Byte) : (s.built raw).resPlen = s.resPlen := rfl
@[simp] theorem State.built_rbuf (s : State) (raw : List Byte) : (s.built raw).rbuf = s.rbuf := rfl
@[simp] theorem State.built_pbuf (s : State) (raw : List Byte) : (s.built raw).pbuf = s.pbuf := rfl
@[simp] theorem State.built_ctx (s : State) (raw : List Byte) : (s.built raw).ctx = { s.ctx with raw := raw } := rfl
@[simp] theorem State.built_era (s : State) (raw : List Byte) : (s.built raw).era = s.era := rfl
@[simp] theorem State.built_script (s : State) (raw : List Byte) : (s.built raw).script = s.script := rfl
@[simp] theorem State.built_issued (s : State) (raw : List Byte) : (s.built raw).issued = s.issued := rfl
@[simp] theorem State.built_rdata (s : State) (raw : List Byte) : (s.built raw).rdata = s.rdata := rfl

@[simp] theorem State.checksumStep_cfg (s : State) : s.checksumStep.cfg = s.cfg := rfl
@[simp] theorem State.checksumStep_busy (s : State) : s.checksumStep.busy = s.busy := rfl
@[simp] theorem State.checksumStep_hvalid (s : State) : s.checksumStep.hvalid = s.hvalid := rfl
@[simp] theorem State.checksumStep_resValid (s : State) : s.checksumStep.resValid = s.resValid := rfl
@[simp] theorem State.checksumStep_hosterr (s : State) : s.checksumStep.hosterr = s.hosterr := rfl
@[simp] theorem State.checksumStep_phase (s : State) : s.checksumStep.phase = .transmit := rfl
@[simp] theorem State.checksumStep_devId (s : State) : s.checksumStep.devId = s.devId := rfl
@[simp] theorem State.checksumStep_txto (s : State) : s.checksumStep.txto = s.txto := rfl
@[simp] theorem State.checksumStep_rxto (s : State) : s.checksumStep.rxto = s.rxto := rfl
@[simp] theorem State.checksumStep_argId (s : State) : s.checksumStep.argId = s.argId := rfl
@[simp] theorem State.checksumStep_argAddr (s : State) : s.checksumStep.argAddr = s.argAddr := rfl
@[simp] theorem State.checksumStep_argCount (s : State) : s.checksumStep.argCount = s.argCount := rfl
@[simp] theorem State.checksumStep_argPlen (s : State) : s.checksumStep.argPlen = s.argPlen := rfl
@[simp] theorem State.checksumStep_resStatus (s : State) : s.checksumStep.resStatus = s.resStatus := rfl
@[simp] theorem State.checksumStep_resCause (s : State) : s.checksumStep.resCause = s.resCause := rfl
@[simp] theorem State.checksumStep_resTstat (s : State) : s.checksumStep.resTstat = s.resTstat := rfl
@[simp] theorem State.checksumStep_resId (s : State) : s.checksumStep.resId = s.resId := rfl
@[simp] theorem State.checksumStep_resErr (s : State) : s.checksumStep.resErr = s.resErr := rfl
@[simp] theorem State.checksumStep_resPlen (s : State) : s.checksumStep.resPlen = s.resPlen := rfl
@[simp] theorem State.checksumStep_rbuf (s : State) : s.checksumStep.rbuf = s.rbuf := rfl
@[simp] theorem State.checksumStep_pbuf (s : State) : s.checksumStep.pbuf = s.pbuf := rfl
@[simp] theorem State.checksumStep_ctx (s : State) : s.checksumStep.ctx = { s.ctx with crc := packetCrc s.cfg s.ctx.wire s.ctx.wire.length, wire := crcAppend s.cfg s.ctx.wire } := rfl
@[simp] theorem State.checksumStep_era (s : State) : s.checksumStep.era = s.era := rfl
@[simp] theorem State.checksumStep_script (s : State) : s.checksumStep.script = s.script := rfl
@[simp] theorem State.checksumStep_issued (s : State) : s.checksumStep.issued = s.issued := rfl
@[simp] theorem State.checksumStep_rdata (s : State) : s.checksumStep.rdata = s.rdata := rfl

@[simp] theorem State.issue_cfg (s : State) (r : Request) : (s.issue r).cfg = s.cfg := rfl
@[simp] theorem State.issue_busy (s : State) (r : Request) : (s.issue r).busy = s.busy := rfl
@[simp] theorem State.issue_hvalid (s : State) (r : Request) : (s.issue r).hvalid = s.hvalid := rfl
@[simp] theorem State.issue_resValid (s : State) (r : Request) : (s.issue r).resValid = s.resValid := rfl
@[simp] theorem State.issue_hosterr (s : State) (r : Request) : (s.issue r).hosterr = s.hosterr := rfl
@[simp] theorem State.issue_phase (s : State) (r : Request) : (s.issue r).phase = s.phase := rfl
@[simp] theorem State.issue_devId (s : State) (r : Request) : (s.issue r).devId = s.devId := rfl
@[simp] theorem State.issue_txto (s : State) (r : Request) : (s.issue r).txto = s.txto := rfl
@[simp] theorem State.issue_rxto (s : State) (r : Request) : (s.issue r).rxto = s.rxto := rfl
@[simp] theorem State.issue_argId (s : State) (r : Request) : (s.issue r).argId = s.argId := rfl
@[simp] theorem State.issue_argAddr (s : State) (r : Request) : (s.issue r).argAddr = s.argAddr := rfl
@[simp] theorem State.issue_argCount (s : State) (r : Request) : (s.issue r).argCount = s.argCount := rfl
@[simp] theorem State.issue_argPlen (s : State) (r : Request) : (s.issue r).argPlen = s.argPlen := rfl
@[simp] theorem State.issue_resStatus (s : State) (r : Request) : (s.issue r).resStatus = s.resStatus := rfl
@[simp] theorem State.issue_resCause (s : State) (r : Request) : (s.issue r).resCause = s.resCause := rfl
@[simp] theorem State.issue_resTstat (s : State) (r : Request) : (s.issue r).resTstat = s.resTstat := rfl
@[simp] theorem State.issue_resId (s : State) (r : Request) : (s.issue r).resId = s.resId := rfl
@[simp] theorem State.issue_resErr (s : State) (r : Request) : (s.issue r).resErr = s.resErr := rfl
@[simp] theorem State.issue_resPlen (s : State) (r : Request) : (s.issue r).resPlen = s.resPlen := rfl
@[simp] theorem State.issue_rbuf (s : State) (r : Request) : (s.issue r).rbuf = s.rbuf := rfl
@[simp] theorem State.issue_pbuf (s : State) (r : Request) : (s.issue r).pbuf = s.pbuf := rfl
@[simp] theorem State.issue_ctx (s : State) (r : Request) : (s.issue r).ctx = { s.ctx with xpend := true } := rfl
@[simp] theorem State.issue_era (s : State) (r : Request) : (s.issue r).era = s.era := rfl
@[simp] theorem State.issue_script (s : State) (r : Request) : (s.issue r).script = s.script := rfl
@[simp] theorem State.issue_issued (s : State) (r : Request) : (s.issue r).issued = s.issued ++ [r] := rfl
@[simp] theorem State.issue_rdata (s : State) (r : Request) : (s.issue r).rdata = s.rdata := rfl

@[simp] theorem State.withReply_cfg (s : State) (r : Reply) : (s.withReply r).cfg = s.cfg := rfl
@[simp] theorem State.withReply_busy (s : State) (r : Reply) : (s.withReply r).busy = s.busy := rfl
@[simp] theorem State.withReply_hvalid (s : State) (r : Reply) : (s.withReply r).hvalid = s.hvalid := rfl
@[simp] theorem State.withReply_resValid (s : State) (r : Reply) : (s.withReply r).resValid = true := rfl
@[simp] theorem State.withReply_hosterr (s : State) (r : Reply) : (s.withReply r).hosterr = s.hosterr := rfl
@[simp] theorem State.withReply_phase (s : State) (r : Reply) : (s.withReply r).phase = s.phase := rfl
@[simp] theorem State.withReply_devId (s : State) (r : Reply) : (s.withReply r).devId = s.devId := rfl
@[simp] theorem State.withReply_txto (s : State) (r : Reply) : (s.withReply r).txto = s.txto := rfl
@[simp] theorem State.withReply_rxto (s : State) (r : Reply) : (s.withReply r).rxto = s.rxto := rfl
@[simp] theorem State.withReply_argId (s : State) (r : Reply) : (s.withReply r).argId = s.argId := rfl
@[simp] theorem State.withReply_argAddr (s : State) (r : Reply) : (s.withReply r).argAddr = s.argAddr := rfl
@[simp] theorem State.withReply_argCount (s : State) (r : Reply) : (s.withReply r).argCount = s.argCount := rfl
@[simp] theorem State.withReply_argPlen (s : State) (r : Reply) : (s.withReply r).argPlen = s.argPlen := rfl
@[simp] theorem State.withReply_resStatus (s : State) (r : Reply) : (s.withReply r).resStatus = s.resStatus := rfl
@[simp] theorem State.withReply_resCause (s : State) (r : Reply) : (s.withReply r).resCause = s.resCause := rfl
@[simp] theorem State.withReply_resTstat (s : State) (r : Reply) : (s.withReply r).resTstat = s.resTstat := rfl
@[simp] theorem State.withReply_resId (s : State) (r : Reply) : (s.withReply r).resId = r.id := rfl
@[simp] theorem State.withReply_resErr (s : State) (r : Reply) : (s.withReply r).resErr = r.err := rfl
@[simp] theorem State.withReply_resPlen (s : State) (r : Reply) : (s.withReply r).resPlen = s.ctx.n := rfl
@[simp] theorem State.withReply_rbuf (s : State) (r : Reply) : (s.withReply r).rbuf = r.payload ++ s.rbuf.drop s.ctx.n.toNat := rfl
@[simp] theorem State.withReply_pbuf (s : State) (r : Reply) : (s.withReply r).pbuf = s.pbuf := rfl
@[simp] theorem State.withReply_ctx (s : State) (r : Reply) : (s.withReply r).ctx = s.ctx := rfl
@[simp] theorem State.withReply_era (s : State) (r : Reply) : (s.withReply r).era = s.era := rfl
@[simp] theorem State.withReply_script (s : State) (r : Reply) : (s.withReply r).script = s.script := rfl
@[simp] theorem State.withReply_issued (s : State) (r : Reply) : (s.withReply r).issued = s.issued := rfl
@[simp] theorem State.withReply_rdata (s : State) (r : Reply) : (s.withReply r).rdata = s.rdata := rfl

@[simp] theorem State.hostRead_cfg (s : State) (n : Nat) : (s.hostRead n).cfg = s.cfg := rfl
@[simp] theorem State.hostRead_busy (s : State) (n : Nat) : (s.hostRead n).busy = s.busy := rfl
@[simp] theorem State.hostRead_hvalid (s : State) (n : Nat) : (s.hostRead n).hvalid = s.hvalid := rfl
@[simp] theorem State.hostRead_resValid (s : State) (n : Nat) : (s.hostRead n).resValid = s.resValid := rfl
@[simp] theorem State.hostRead_hosterr (s : State) (n : Nat) : (s.hostRead n).hosterr = s.hosterr := rfl
@[simp] theorem State.hostRead_phase (s : State) (n : Nat) : (s.hostRead n).phase = s.phase := rfl
@[simp] theorem State.hostRead_devId (s : State) (n : Nat) : (s.hostRead n).devId = s.devId := rfl
@[simp] theorem State.hostRead_txto (s : State) (n : Nat) : (s.hostRead n).txto = s.txto := rfl
@[simp] theorem State.hostRead_rxto (s : State) (n : Nat) : (s.hostRead n).rxto = s.rxto := rfl
@[simp] theorem State.hostRead_argId (s : State) (n : Nat) : (s.hostRead n).argId = s.argId := rfl
@[simp] theorem State.hostRead_argAddr (s : State) (n : Nat) : (s.hostRead n).argAddr = s.argAddr := rfl
@[simp] theorem State.hostRead_argCount (s : State) (n : Nat) : (s.hostRead n).argCount = s.argCount := rfl
@[simp] theorem State.hostRead_argPlen (s : State) (n : Nat) : (s.hostRead n).argPlen = s.argPlen := rfl
@[simp] theorem State.hostRead_resStatus (s : State) (n : Nat) : (s.hostRead n).resStatus = s.resStatus := rfl
@[simp] theorem State.hostRead_resCause (s : State) (n : Nat) : (s.hostRead n).resCause = s.resCause := rfl
@[simp] theorem State.hostRead_resTstat (s : State) (n : Nat) : (s.hostRead n).resTstat = s.resTstat := rfl
@[simp] theorem State.hostRead_resId (s : State) (n : Nat) : (s.hostRead n).resId = s.resId := rfl
@[simp] theorem State.hostRead_resErr (s : State) (n : Nat) : (s.hostRead n).resErr = s.resErr := rfl
@[simp] theorem State.hostRead_resPlen (s : State) (n : Nat) : (s.hostRead n).resPlen = s.resPlen := rfl
@[simp] theorem State.hostRead_rbuf (s : State) (n : Nat) : (s.hostRead n).rbuf = s.rbuf := rfl
@[simp] theorem State.hostRead_pbuf (s : State) (n : Nat) : (s.hostRead n).pbuf = s.pbuf := rfl
@[simp] theorem State.hostRead_ctx (s : State) (n : Nat) : (s.hostRead n).ctx = s.ctx := rfl
@[simp] theorem State.hostRead_era (s : State) (n : Nat) : (s.hostRead n).era = s.era := rfl
@[simp] theorem State.hostRead_script (s : State) (n : Nat) : (s.hostRead n).script = s.script := rfl
@[simp] theorem State.hostRead_issued (s : State) (n : Nat) : (s.hostRead n).issued = s.issued := rfl
@[simp] theorem State.hostRead_rdata (s : State) (n : Nat) : (s.hostRead n).rdata = s.readReg n := rfl

/-- A state from which the next move has been taken. -/
theorem State.nextMove_nil (s : State) (h : s.script = []) : s.nextMove = (.engine, s) := by
  simp [State.nextMove, h]

theorem State.nextMove_cons (s : State) (m : Move) (rest : List Move) (h : s.script = m :: rest) :
    s.nextMove = (m, { s with script := rest }) := by
  simp [State.nextMove, h]

end Sys2Proof.Machine
end

