-- ==== Sys2Proof/Laws/Ops.lean ====
section
/-! SUPPORT. For each shared operation, everything it can do. -/

namespace Sys2Proof.Machine

theorem State.engineEnabled_iff (s : State) :
    s.engineEnabled = true ↔ s.busy = true ∧ s.ctx.xpend = false := by
  simp [State.engineEnabled]

theorem State.inPhase_enabled {s : State} {ph : Phase} {f : State → State} (he : s.engineEnabled = true) (hp : s.phase = ph) :
    s.inPhase ph f = f s := by
  simp [State.inPhase, he, hp]

theorem State.inPhase_otherwise {s : State} {ph : Phase} {f : State → State}
    (h : ¬(s.engineEnabled = true ∧ s.phase = ph)) : s.inPhase ph f = s := by
  unfold State.inPhase
  split
  · rename_i hc
    simp only [Bool.and_eq_true, decide_eq_true_eq] at hc
    exact absurd hc h
  · rfl

theorem State.onCommand_idle {s : State} {f : State → State} (h : s.busy = false) : s.onCommand f = f s.accept := by
  simp [State.onCommand, h]

theorem State.onCommand_busy {s : State} {f : State → State} (h : s.busy = true) : s.onCommand f = s.hostError := by
  simp [State.onCommand, h]

/-- What INIT can do after the accept (R145). -/
theorem State.bindHandle_cases (s : State) :
    (s.hvalid = true ∧ s.bindHandle = s.raise .rejHandleBound) ∨
    (s.hvalid = false ∧ (s.argId = 253#8 ∨ s.argId = 255#8) ∧ s.bindHandle = s.raise .rejBadId) ∨
    (s.hvalid = false ∧ s.argId ≠ 253#8 ∧ s.argId ≠ 255#8 ∧
      s.bindHandle = State.completeOk { s with devId := s.argId, hvalid := true }) := by
  unfold State.bindHandle
  split
  · exact .inl ⟨‹_›, rfl⟩
  · split
    · exact .inr (.inl ⟨by simp_all, ‹_›, rfl⟩)
    · exact .inr (.inr ⟨by simp_all, by simp_all, by simp_all, rfl⟩)

/-- What PING can do after the accept (R147, R148). -/
theorem State.acceptPing_cases (s : State) :
    (s.hvalid = false ∧ s.acceptPing = s.raise .rejNoHandle) ∨ (s.hvalid = true ∧ s.acceptPing = s.startPing) := by
  cases h : s.hvalid <;> simp [State.acceptPing, h]

/-- What READ can do after the accept (R147, R148). -/
theorem State.acceptRead_cases (s : State) :
    (s.hvalid = false ∧ s.acceptRead = s.raise .rejNoHandle) ∨
    (s.hvalid = true ∧ s.cfg.maxRead < s.argCount.toNat ∧ s.acceptRead = s.raise .rejCountOverflow) ∨
    (s.hvalid = true ∧ s.argCount.toNat ≤ s.cfg.maxRead ∧ s.acceptRead = s.startRead) := by
  cases h : s.hvalid
  · simp [State.acceptRead, h]
  · by_cases hc : s.argCount.toNat > s.cfg.maxRead
    · simp [State.acceptRead, h, hc]
    · simp [State.acceptRead, h, hc]; omega

/-- What WRITE can do after the accept (R147, R148). -/
theorem State.acceptWrite_cases (s : State) :
    (s.hvalid = false ∧ s.acceptWrite = s.raise .rejNoHandle) ∨
    (s.hvalid = true ∧ s.cfg.maxParams < s.argPlen.toNat ∧ s.acceptWrite = s.raise .rejPlenOverflow) ∨
    (s.hvalid = true ∧ s.argPlen.toNat ≤ s.cfg.maxParams ∧ s.acceptWrite = s.startWrite) := by
  cases h : s.hvalid
  · simp [State.acceptWrite, h]
  · by_cases hc : s.argPlen.toNat > s.cfg.maxParams
    · simp [State.acceptWrite, h, hc]
    · simp [State.acceptWrite, h, hc]; omega

/-- What STUFF can do (R153 to R155). -/
theorem State.stuffStep_cases (s : State) :
    (finalize s.ctx.raw = none ∧ s.stuffStep =
      State.raise { s with ctx := { s.ctx with k := BitVec.ofNat 16 (insertedCount s.ctx.raw), sm := (stuffRegion s.ctx.raw).2 } } .rejLenOverflow) ∨
    (∃ wire k, finalize s.ctx.raw = some (wire, k) ∧ s.stuffStep =
      { s with
        ctx := { s.ctx with wire := wire, k := BitVec.ofNat 16 k, sm := (stuffRegion s.ctx.raw).2 }
        phase := .checksum }) := by
  unfold State.stuffStep
  cases h : finalize s.ctx.raw with
  | none => exact .inl ⟨rfl, rfl⟩
  | some w => exact .inr ⟨w.1, w.2, rfl, rfl⟩

/-- What VERIFY can do (R167 to R170, R192). -/
theorem State.verifyStep_cases (s : State) (rx : List Byte) :
    (checkMarker rx = false ∧ s.verifyStep rx = s.raise .badMarker) ∨
    (checkMarker rx = true ∧ checkLength rx = false ∧ s.verifyStep rx = s.raise .badLength) ∨
    (checkMarker rx = true ∧ checkLength rx = true ∧ crcVerify s.cfg rx = false ∧ s.verifyStep rx =
      State.raise { s with ctx := { s.ctx with crc := packetCrc s.cfg rx (rx.length - 2) } } .badCrc) ∨
    (checkMarker rx = true ∧ checkLength rx = true ∧ crcVerify s.cfg rx = true ∧ s.verifyStep rx =
      { s with
        ctx := { s.ctx with
          crc := packetCrc s.cfg rx (rx.length - 2)
          uns := unstuff (replyRegion rx)
          um := (unstuffFrom .zero (replyRegion rx)).2 }
        phase := .parse }) := by
  unfold State.verifyStep
  cases checkMarker rx <;> cases checkLength rx <;> cases crcVerify s.cfg rx <;> simp

/-- What PARSE can do (R171 to R175). -/
theorem State.parseStep_cases (s : State) :
    (checkFull s.ctx.uns s.ctx.expLen.toNat = false ∧ s.parseStep = s.raise .shortPayload) ∨
    (checkFull s.ctx.uns s.ctx.expLen.toNat = true ∧ checkInstr s.ctx.uns = false ∧ s.parseStep = s.raise .badInstr) ∨
    (checkFull s.ctx.uns s.ctx.expLen.toNat = true ∧ checkInstr s.ctx.uns = true ∧
      s.parseStep = (s.withReply (extract s.ctx.uns s.ctx.n.toNat)).completeOk) := by
  unfold State.parseStep
  cases checkFull s.ctx.uns s.ctx.expLen.toNat <;> cases checkInstr s.ctx.uns <;> simp

end Sys2Proof.Machine
end

