-- ==== Sys2Proof/Laws/PerInstr.lean ====
section
/-! SUPPORT. One family of statements over the instructions: every instruction's bits fall under its row of the opcode table (R76). -/

namespace Sys2Proof.Laws.TableRow

/-- `mask` of each row of spec/opcode_table.json, byte by byte, offset 0 first. -/
def mask : Instr → List Byte
  | .pingPkt _ => [0xFF, 0xFF, 0xFF, 0xFF, 0x00, 0xFF, 0xFF, 0xFF]
  | .readPkt _ _ => [0xFF, 0xFF, 0xFF, 0xFF, 0x00, 0x00, 0x00, 0xFF]
  | .writePkt _ _ => [0xFF, 0xFF, 0xFF, 0xFF, 0x00, 0x00, 0x00, 0xFF]
  | .statusPkt _ _ => [0xFF, 0xFF, 0xFF, 0xFF, 0x00, 0x00, 0x00, 0xFF]
  | .init => [0xFF]
  | .ping => [0xFF]
  | .read => [0xFF]
  | .write => [0xFF]

/-- `match` of each row of spec/opcode_table.json. -/
def row : Instr → List Byte
  | .pingPkt _ => [0xFF, 0xFF, 0xFD, 0x00, 0x00, 0x03, 0x00, 0x01]
  | .readPkt _ _ => [0xFF, 0xFF, 0xFD, 0x00, 0x00, 0x00, 0x00, 0x02]
  | .writePkt _ _ => [0xFF, 0xFF, 0xFD, 0x00, 0x00, 0x00, 0x00, 0x03]
  | .statusPkt _ _ => [0xFF, 0xFF, 0xFD, 0x00, 0x00, 0x00, 0x00, 0x55]
  | .init => [0x00]
  | .ping => [0x01]
  | .read => [0x02]
  | .write => [0x03]

/-- `(bits & mask) == match`, under the default parameters, which are those the table is printed for (R76). -/
def Statement (i : Instr) : Prop :=
  List.zipWith (· &&& ·) (encode Machine.defaultConfig i) (mask i) = row i

theorem pingPkt (id : Byte) : Statement (.pingPkt id) := by
  simp only [Statement, encode, packetHeader, mask, row, List.zipWith, BitVec.ofNat_eq_ofNat, BitVec.and_zero]
  decide

theorem readPkt (id : Byte) (len : Word) : Statement (.readPkt id len) := by
  simp only [Statement, encode, packetHeader, mask, row, List.zipWith, BitVec.ofNat_eq_ofNat, BitVec.and_zero]
  decide

theorem writePkt (id : Byte) (len : Word) : Statement (.writePkt id len) := by
  simp only [Statement, encode, packetHeader, mask, row, List.zipWith, BitVec.ofNat_eq_ofNat, BitVec.and_zero]
  decide

theorem statusPkt (id : Byte) (len : Word) : Statement (.statusPkt id len) := by
  simp only [Statement, encode, packetHeader, mask, row, List.zipWith, BitVec.ofNat_eq_ofNat, BitVec.and_zero]
  decide

theorem init : Statement .init := by unfold Statement; decide
theorem ping : Statement .ping := by unfold Statement; decide
theorem read : Statement .read := by unfold Statement; decide
theorem write : Statement .write := by unfold Statement; decide

end Sys2Proof.Laws.TableRow
end

