-- ==== Sys2Proof/Laws/Step.lean ====
section
/-! SUPPORT. Everything one step can do: one inversion lemma for each agent's move. -/

namespace Sys2Proof.Machine

/-- The instruction packet that BUILD makes, in any state. -/
def State.builtPacket (s : State) : List Byte :=
  match s.ctx.op with
  | .none => []
  | .ping => buildPing s.cfg s.ctx.id
  | .read => rawPacket s.ctx.id (s.ctx.p + 3#16) s.cfg.instrRead s.readOperands
  | .write => rawPacket s.ctx.id (s.ctx.p + 3#16) s.cfg.instrWrite (s.writeOperands (s.ctx.p + 3#16))

/-- A reply whose header decodes as a status packet is the packet that STATUS_PKT accepts. -/
theorem State.receivedPacket_of_receivedInstr {s : State} {i : Instr} (h : s.receivedInstr = some i) :
    ∃ id len, i = .statusPkt id len ∧ s.receivedPacket id len = s.ctx.rxb := by
  unfold State.receivedInstr at h
  split at h
  · rename_i id len rest hd
    rw [decode_packet] at hd
    obtain ⟨lL, lH, rfl, hb⟩ := bytes_of_decodePacket_status hd
    refine ⟨id, _, (Option.some.inj h).symm, ?_⟩
    simp [State.receivedPacket, packetHeader, hb]
  · cases h
  · cases h

/-- What the engine's turn can do (R140, R152 to R175). -/
theorem State.engineTurn_cases {s t : State} (h : s.engineTurn = .next t) :
    ((s.engineEnabled = false ∨ s.phase = .idle) ∧ t = s) ∨
    (s.engineEnabled = true ∧
      ((s.phase = .build ∧ s.ctx.op ≠ .none ∧ t = s.built s.builtPacket) ∨
       (s.phase = .stuff ∧ t = s.stuffStep) ∨
       (s.phase = .checksum ∧ t = s.checksumStep) ∨
       (s.phase = .transmit ∧ t = s.transmitStep) ∨
       (s.phase = .receive ∧ t = s.receiveStep) ∨
       (s.phase = .verify ∧ t = s.verifyStep s.ctx.rxb) ∨
       (s.phase = .parse ∧ t = s.parseStep))) := by
  unfold State.engineTurn at h
  split at h
  · rename_i he
    cases hp : s.phase with
    | idle => simp [State.engineInstr, State.bareStep, hp] at h; exact .inl ⟨.inr rfl, h.symm⟩
    | build =>
      refine .inr ⟨he, .inl ⟨rfl, ?_⟩⟩
      cases ho : s.ctx.op <;>
        simp [State.engineInstr, State.bareStep, State.contextInstr, hp, ho, exec, execPingPkt, execReadPkt, execWritePkt,
          State.inPhase_enabled he hp, State.builtPacket] at h ⊢
      all_goals exact h.symm
    | stuff => simp [State.engineInstr, State.bareStep, hp] at h; simp [h, he]
    | checksum => simp [State.engineInstr, State.bareStep, hp] at h; simp [h, he]
    | transmit => simp [State.engineInstr, State.bareStep, hp] at h; simp [h, he]
    | receive => simp [State.engineInstr, State.bareStep, hp] at h; simp [h, he]
    | verify =>
      refine .inr ⟨he, .inr <| .inr <| .inr <| .inr <| .inr <| .inl ⟨rfl, ?_⟩⟩
      simp only [State.engineInstr, hp] at h
      split at h
      · rename_i i hi
        obtain ⟨id, len, rfl, hrx⟩ := State.receivedPacket_of_receivedInstr hi
        simpa [exec, execStatusPkt, hp, State.inPhase_enabled he hp, hrx] using h.symm
      · simpa [State.bareStep, hp] using h.symm
    | parse =>
      refine .inr ⟨he, .inr <| .inr <| .inr <| .inr <| .inr <| .inr ⟨rfl, ?_⟩⟩
      simp only [State.engineInstr, hp] at h
      split at h
      · rename_i i hi
        obtain ⟨id, len, rfl, -⟩ := State.receivedPacket_of_receivedInstr hi
        simpa [exec, execStatusPkt, hp, State.inPhase_enabled he hp] using h.symm
      · simpa [State.bareStep, hp] using h.symm
  · rename_i he
    exact .inl ⟨.inl (by simpa using he), by simpa using h.symm⟩

/-- What a host write can do (R12, R17, R26, R27, R143 to R148). -/
theorem State.hostWrite_cases {s t : State} {n : Nat} {v : Word} (h : s.hostWrite n v = .next t) :
    (s.busy = true ∧ t = s.hostError) ∨
    (s.busy = false ∧ n = 0 ∧
      (t = s.accept.bindHandle ∨ t = s.accept.acceptPing ∨ t = s.accept.acceptRead ∨ t = s.accept.acceptWrite ∨
        t = s.accept.raise .rejBadOpcode)) ∨
    (s.busy = false ∧ n ≠ 0 ∧ t = s.writeReg n v) := by
  unfold State.hostWrite at h
  split at h
  · rename_i hb; exact .inl ⟨hb, by simpa using h.symm⟩
  · rename_i hb
    simp only [Bool.not_eq_true] at hb
    split at h
    · rename_i hn
      refine .inr (.inl ⟨hb, hn, ?_⟩)
      simp only [State.writeCmd, decode_command] at h
      split at h
      · rename_i hd
        (repeat' split at hd) <;> simp only [reduceCtorEq, Except.ok.injEq, Prod.mk.injEq] at hd <;>
          obtain ⟨rfl, -⟩ := hd <;>
          simp [exec, execInit, execPing, execRead, execWrite, State.onCommand_idle hb] at h <;> simp [h]
      · simp at h; simp [h]
    · rename_i hn
      exact .inr (.inr ⟨hb, hn, by simpa using h.symm⟩)

/-- What a host write to a register other than CMD can do: everything but one register or one cell of PBUF stays (R11, R27). -/
theorem State.writeReg_cases (s : State) (n : Nat) (v : Word) :
    s.writeReg n v = { s with txto := v } ∨ s.writeReg n v = { s with rxto := v } ∨
    s.writeReg n v = { s with argId := lo8 v } ∨ s.writeReg n v = { s with argAddr := v } ∨
    s.writeReg n v = { s with argCount := v } ∨ s.writeReg n v = { s with argPlen := v } ∨
    (∃ i < s.cfg.maxParams, s.writeReg n v = { s with pbuf := Memory.write i (lo8 v) s.pbuf }) ∨
    s.writeReg n v = s := by
  unfold State.writeReg
  split
  · exact .inl rfl
  · exact .inr (.inl rfl)
  · exact .inr (.inr (.inl rfl))
  · exact .inr (.inr (.inr (.inl rfl)))
  · exact .inr (.inr (.inr (.inr (.inl rfl))))
  · exact .inr (.inr (.inr (.inr (.inr (.inl rfl)))))
  · split
    · rename_i hn
      exact .inr <| .inr <| .inr <| .inr <| .inr <| .inr <| .inl ⟨_, by omega, rfl⟩
    · exact .inr <| .inr <| .inr <| .inr <| .inr <| .inr <| .inr rfl

/-- What a transmit answer can do (R160, R161, R166). -/
theorem State.txAnswer_cases {s t : State} {tstat : Byte} (h : s.txAnswer tstat = .next t) :
    (s.awaits .transmit = false ∧ t = s) ∨
    (s.awaits .transmit = true ∧
      ((tstat = 0#8 ∧ s.ctx.id = idBroadcast ∧ t = s.completeOk) ∨
       (tstat = 0#8 ∧ s.ctx.id ≠ idBroadcast ∧ t = { s with ctx := { s.ctx with xpend := false }, phase := .receive }) ∨
       (tstat ≠ 0#8 ∧ t = State.raise { s with resTstat := tstat } .txFail))) := by
  unfold State.txAnswer at h
  split at h
  · rename_i ha
    refine .inr ⟨ha, ?_⟩
    split at h
    · rename_i ht
      by_cases hb : s.ctx.id = idBroadcast
      · exact .inl ⟨ht, hb, by simpa [State.transmitted, hb] using h.symm⟩
      · exact .inr (.inl ⟨ht, hb, by simpa [State.transmitted, hb] using h.symm⟩)
    · rename_i ht
      exact .inr (.inr ⟨ht, by simpa using h.symm⟩)
  · rename_i ha
    exact .inl ⟨by simpa using ha, by simpa using h.symm⟩

/-- What a receive answer can do (R164, R165). -/
theorem State.rxAnswer_cases {s t : State} {tstat : Byte} {data : List Byte} (h : s.rxAnswer tstat data = .next t) :
    (s.awaits .receive = false ∧ t = s) ∨
    (s.awaits .receive = true ∧
      ((tstat = 0#8 ∧ data.length = s.ctx.expLen.toNat ∧
          t = { s with ctx := { s.ctx with rxb := data, xpend := false }, phase := .verify }) ∨
       (tstat ≠ 0#8 ∧ t =
          State.raise { s with resTstat := tstat, ctx := { s.ctx with rxb := data.take s.ctx.expLen.toNat } } .rxFail))) := by
  unfold State.rxAnswer at h
  split at h
  · rename_i ha
    refine .inr ⟨ha, ?_⟩
    split at h
    · rename_i ht
      split at h
      · rename_i hl
        exact .inl ⟨ht, hl, by simpa using h.symm⟩
      · cases h
    · rename_i ht
      exact .inr ⟨ht, by simpa using h.symm⟩
  · rename_i ha
    exact .inl ⟨by simpa using ha, by simpa using h.symm⟩

@[simp] theorem State.awaits_iff (s : State) (ph : Phase) : s.awaits ph = true ↔ s.ctx.xpend = true ∧ s.phase = ph := by
  simp [State.awaits]

/-- What a move can be (R140). -/
theorem State.takeMove_cases {s t : State} {m : Move} (h : s.takeMove m = .next t) :
    (m = .engine ∧ s.engineTurn = .next t) ∨
    (∃ n v, m = .hostWrite n v ∧ s.hostWrite n v = .next t) ∨
    (∃ n, m = .hostRead n ∧ t = s.hostRead n) ∨
    (∃ ts, m = .txAnswer ts ∧ s.txAnswer ts = .next t) ∨
    (∃ ts d, m = .rxAnswer ts d ∧ s.rxAnswer ts d = .next t) ∨
    (m = .reset ∧ t = s.platformReset) := by
  cases m <;> simp_all [State.takeMove]

/-- A step is the next move, taken in the state without it. -/
theorem step_eq_takeMove (s : State) : step s = s.nextMove.2.takeMove s.nextMove.1 := rfl

/-- Taking the next move from the script changes the script only. -/
theorem State.nextMove_state (s : State) : ∃ l, s.nextMove.2 = { s with script := l } := by
  unfold State.nextMove
  split
  · exact ⟨s.script, rfl⟩
  · exact ⟨_, rfl⟩

end Sys2Proof.Machine
end

