-- ==== Sys2Proof/Tests/Slice0.lean ====
section
/-! SUPPORT. The model's own tests. Expected values come from spec/95_test_vectors.md, from the tables of 30_encoding.md, 40_crc.md and 41_stuffing.md, or are worked out by hand from the rule named. -/

namespace Sys2Proof.Tests
open Sys2Proof.Machine

/-- The state of a result, for reading a field of it. -/
def nextOf : Result → State
  | .next s => s
  | .fault _ => State.reset
  | .refused _ => State.reset

/-- The result is a next state. -/
def goesOn : Result → Bool
  | .next _ => true
  | .fault _ => false
  | .refused _ => false

/-- An idle engine bound to `id`. -/
def boundTo (id : Byte) : State := { State.reset with devId := id, hvalid := true }

/-- An engine in phase `ph` of operation `op` on device 1. -/
def inCommand (op : Op) (ph : Phase) : State :=
  { boundTo 1#8 with busy := true, phase := ph, ctx := { Ctx.cleared with op := op, id := 1#8 } }

/-- An engine that has received `rx`, in phase VERIFY. -/
def received (rx : List Byte) : State :=
  { inCommand .write .verify with
    ctx := { Ctx.cleared with
      op := .write, id := 1#8, rxb := rx, expLen := BitVec.ofNat 16 rx.length, n := BitVec.ofNat 16 (rx.length - 11) } }

/-! ## Decoding: the words of the opcode table -/

-- R76, the PING row: FF FF FD 00 id 03 00 01
theorem test_decode_ping_packet :
    decode defaultConfig .packet [0xFF, 0xFF, 0xFD, 0x00, 0x01, 0x03, 0x00, 0x01] = .ok (.pingPkt 1#8, []) := by decide
-- R67: FF FF FD 00 id 07 00 02, then the parameters
theorem test_decode_read_packet :
    decode defaultConfig .packet [0xFF, 0xFF, 0xFD, 0x00, 0xFC, 0x07, 0x00, 0x02, 0x84] = .ok (.readPkt 252#8 7#16, [0x84]) := by
  decide
-- R68: length low byte first
theorem test_decode_write_packet :
    decode defaultConfig .packet [0xFF, 0xFF, 0xFD, 0x00, 0xFE, 0x34, 0x12, 0x03] = .ok (.writePkt 254#8 0x1234#16, []) := by decide
-- R69
theorem test_decode_status_packet :
    decode defaultConfig .packet [0xFF, 0xFF, 0xFD, 0x00, 0xFF, 0x04, 0x00, 0x55, 0x00] = .ok (.statusPkt 255#8 4#16, [0x00]) := by
  decide
-- R74, the four opcodes
theorem test_decode_init : decode defaultConfig .command [0x00] = .ok (.init, []) := by decide
theorem test_decode_ping : decode defaultConfig .command [0x01] = .ok (.ping, []) := by decide
theorem test_decode_read : decode defaultConfig .command [0x02] = .ok (.read, []) := by decide
theorem test_decode_write : decode defaultConfig .command [0x03] = .ok (.write, []) := by decide
-- R74: 0x04 to 0xFF are not commands
theorem test_decode_opcode_4 : decode defaultConfig .command [0x04] = .error .unknownOpcode := by decide
theorem test_decode_bad_marker :
    decode defaultConfig .packet [0xFF, 0xFD, 0xFD, 0x00, 0x01, 0x03, 0x00, 0x01] = .error .badMarker := by decide
theorem test_decode_bad_reserved :
    decode defaultConfig .packet [0xFF, 0xFF, 0xFD, 0x01, 0x01, 0x04, 0x00, 0x55] = .error .badReserved := by decide
theorem test_decode_bad_ping_length :
    decode defaultConfig .packet [0xFF, 0xFF, 0xFD, 0x00, 0x01, 0x04, 0x00, 0x01] = .error .badPingLength := by decide
-- R65: 0x04 is no instruction code
theorem test_decode_unknown_instr :
    decode defaultConfig .packet [0xFF, 0xFF, 0xFD, 0x00, 0x01, 0x03, 0x00, 0x04] = .error .unknownInstr := by decide
theorem test_decode_short : decode defaultConfig .packet [0xFF, 0xFF, 0xFD, 0x00, 0x01, 0x03, 0x00] = .error .tooShort := by decide

-- the rows of spec/opcode_table.json as numbers, digits as printed and byte 0 lowest
theorem test_table_ping_pkt : decodeTableWord 64 0xFFFFFD0000030001 = some (.pingPkt 0#8) := by decide
theorem test_table_ping_pkt_low : decodeTableWord 64 0x0100030000FDFFFF = some (.pingPkt 0#8) := by decide
theorem test_table_read_pkt : decodeTableWord 64 0xFFFFFD0000000002 = some (.readPkt 0#8 0#16) := by decide
theorem test_table_read_pkt_low : decodeTableWord 64 0x0200000000FDFFFF = some (.readPkt 0#8 0#16) := by decide
theorem test_table_write_pkt : decodeTableWord 64 0xFFFFFD0000000003 = some (.writePkt 0#8 0#16) := by decide
theorem test_table_status_pkt : decodeTableWord 64 0xFFFFFD0000000055 = some (.statusPkt 0#8 0#16) := by decide
theorem test_table_init : decodeTableWord 8 0 = some .init := by decide
theorem test_table_write : decodeTableWord 8 3 = some .write := by decide
theorem test_table_not_an_opcode : decodeTableWord 8 4 = none := by decide

-- the very next step runs the placed word (log 11); the checksum of 00 00 04 00 55 00 is 0xAE06 (section 2.4), not 0
theorem test_place_ping_pkt :
    (nextOf (step (State.reset.withFetchWord 64 0xFFFFFD0007030001))).ctx.raw = [0xFF, 0xFF, 0xFD, 0x00, 0x07, 0x03, 0x00, 0x01] := by
  decide
theorem test_place_read_pkt :
    (nextOf (step (State.reset.withFetchWord 64 0xFFFFFD0000000002))).ctx.raw =
      [0xFF, 0xFF, 0xFD, 0x00, 0x00, 0x00, 0x00, 0x02, 0x00, 0x00, 0x00, 0x00] := by decide
theorem test_place_write_pkt :
    (nextOf (step (State.reset.withFetchWord 64 0xFFFFFD0000000003))).ctx.raw = [0xFF, 0xFF, 0xFD, 0x00, 0x00, 0x00, 0x00, 0x03] := by
  decide
theorem test_place_status_pkt :
    (nextOf (step (State.reset.withFetchWord 64 0xFFFFFD0000040055))).resCause = .badCrc := by decide
theorem test_place_init : (nextOf (step (State.reset.withFetchWord 8 0))).hvalid = true := by decide
theorem test_place_ping : (nextOf (step (State.reset.withFetchWord 8 1))).resCause = .rejNoHandle := by decide

/-! ## WellFormed refuses -/

-- R64: 253 and 255 are no valid ids
theorem test_ill_formed_ping_id : Instr.wellFormed defaultConfig (.pingPkt 253#8) = false := by decide
theorem test_ill_formed_read_id : Instr.wellFormed defaultConfig (.readPkt 255#8 7#16) = false := by decide
-- R67: 7, or 8 with one stuffed byte
theorem test_ill_formed_read_length : Instr.wellFormed defaultConfig (.readPkt 1#8 9#16) = false := by decide
theorem test_ill_formed_write_id : Instr.wellFormed defaultConfig (.writePkt 253#8 3#16) = false := by decide
-- R115: at least P + 3 with P = 0
theorem test_ill_formed_write_short : Instr.wellFormed defaultConfig (.writePkt 1#8 2#16) = false := by decide
-- R116: at most 64 + 3 + 21
theorem test_ill_formed_write_long : Instr.wellFormed defaultConfig (.writePkt 1#8 89#16) = false := by decide
-- R69: N + 4
theorem test_ill_formed_status_length : Instr.wellFormed defaultConfig (.statusPkt 1#8 3#16) = false := by decide
theorem test_well_formed_write_boundary : Instr.wellFormed defaultConfig (.writePkt 254#8 88#16) = true := by decide

/-! ## Parameters -/

theorem test_default_config : defaultConfig.wf = true := by decide +kernel
-- R97: "the exclusive or of all 256 entries is 0x0000"; entries 1 and 0xFF
theorem test_table_xor : defaultCrcTable.foldl (· ^^^ ·) 0#16 = 0#16 := by decide +kernel
theorem test_table_entries : defaultCrcTable.getD 1 0 = 0x8005 ∧ defaultCrcTable.getD 0xFF 0 = 0x0202 := by decide
-- R6: MAX_PARAMS ≥ 4; codes pairwise distinct
theorem test_config_refused : ({ defaultConfig with maxParams := 3 } : Config).wf = false := by decide
theorem test_config_codes_refused : ({ defaultConfig with instrRead := 0x01 } : Config).wf = false := by decide +kernel

/-! ## Checksum engine (95_test_vectors.md section 2) -/

theorem test_crc_step : crcStep defaultCrcTable 0x1234#16 0xAB#8 = 0xB795#16 := by decide
theorem test_crc_step_drop : crcStep defaultCrcTable 0x8000#16 0x00#8 = 0x8303#16 := by decide
theorem test_crc_seeded : crc defaultCrcTable 0xFFFF#16 [0x00] = 0xFD02#16 := by decide
theorem test_crc_check_string :
    crc defaultCrcTable 0#16 [0x31, 0x32, 0x33, 0x34, 0x35, 0x36, 0x37, 0x38, 0x39] = 0xFEE8#16 := by decide
theorem test_crc_append :
    crcAppend defaultConfig [0xFF, 0xFF, 0xFD, 0x00, 0x01, 0x03, 0x00, 0x01] =
      [0xFF, 0xFF, 0xFD, 0x00, 0x01, 0x03, 0x00, 0x01, 0x3A, 0x14] := by decide
theorem test_crc_append_from_marker :
    crcAppend { defaultConfig with crcFirst := 0 } [0xFF, 0xFF, 0xFD, 0x00, 0x01, 0x03, 0x00, 0x01] =
      [0xFF, 0xFF, 0xFD, 0x00, 0x01, 0x03, 0x00, 0x01, 0x19, 0x4E] := by decide
theorem test_crc_verify :
    crcVerify defaultConfig [0xFF, 0xFF, 0xFD, 0x00, 0x01, 0x04, 0x00, 0x55, 0x00, 0x7D, 0x2E] = true := by decide
theorem test_crc_verify_corrupted :
    crcVerify defaultConfig [0xFF, 0xFF, 0xFD, 0x00, 0x01, 0x04, 0x00, 0x55, 0x00, 0x7D, 0x2F] = false := by decide

/-! ## Stuffer and unstuffer (95_test_vectors.md section 3) -/

theorem test_stuff_middle : stuff [0x74, 0x00, 0xFF, 0xFF, 0xFD, 0x00] = [0x74, 0x00, 0xFF, 0xFF, 0xFD, 0xFD, 0x00] := by decide
theorem test_stuff_run : stuff [0xFF, 0xFF, 0xFF, 0xFD] = [0xFF, 0xFF, 0xFF, 0xFD, 0xFD] := by decide
theorem test_stuff_back_to_back :
    stuff [0xFF, 0xFF, 0xFD, 0xFF, 0xFF, 0xFD] = [0xFF, 0xFF, 0xFD, 0xFD, 0xFF, 0xFF, 0xFD, 0xFD] := by decide
theorem test_stuff_single_ff : stuff [0xFF, 0xFD, 0xFF, 0xFD] = [0xFF, 0xFD, 0xFF, 0xFD] := by decide
-- section 3.3: SM = 1 after the first chunk 74 00 FF
theorem test_stuff_chunk : stuffFrom .zero [0x74, 0x00, 0xFF] = ([0x74, 0x00, 0xFF], .one) := by decide
theorem test_stuff_chunk_carried : (stuffFrom .one [0xFF, 0xFD, 0x00]).1 = [0xFF, 0xFD, 0xFD, 0x00] := by decide
theorem test_unstuff_restart : unstuff [0xFF, 0xFF, 0xFD, 0xFD, 0xFD, 0xFD] = [0xFF, 0xFF, 0xFD, 0xFD, 0xFD] := by decide
theorem test_unstuff_left_alone :
    unstuff [0xFF, 0xFF, 0xFD, 0xFF, 0xFF, 0xFD, 0xFD] = [0xFF, 0xFF, 0xFD, 0xFF, 0xFF, 0xFD] := by decide
theorem test_unstuff_single_ff :
    unstuff [0xFF, 0xFF, 0xFD, 0xFF, 0xFD, 0xFD] = [0xFF, 0xFF, 0xFD, 0xFF, 0xFD, 0xFD] := by decide

/-! ## Codec (95_test_vectors.md section 4) -/

-- READ 0xFFFF, 0x00FD: one byte stuffed, length 8
theorem test_finalize_read :
    finalize (buildRead defaultConfig 1#8 0xFFFF#16 0x00FD#16) =
      some ([0xFF, 0xFF, 0xFD, 0x00, 0x01, 0x08, 0x00, 0x02, 0xFF, 0xFF, 0xFD, 0xFD, 0x00], 1) := by decide
theorem test_finalize_write :
    finalize (buildWrite defaultConfig 1#8 [0xFF, 0xFF, 0xFD, 0xFF, 0xFF, 0xFD]) =
      some ([0xFF, 0xFF, 0xFD, 0x00, 0x01, 0x0B, 0x00, 0x03, 0xFF, 0xFF, 0xFD, 0xFD, 0xFF, 0xFF, 0xFD, 0xFD], 2) := by decide
-- section 4.3 rows 2, 6, 7, 9, 15, 16, 17
theorem test_accept_ping_reply :
    acceptStatus defaultConfig [0xFF, 0xFF, 0xFD, 0x00, 0x01, 0x07, 0x00, 0x55, 0x00, 0x06, 0x04, 0x26, 0xC1, 0x97] 3 =
      .ok ⟨0x01, 0x00, [0x06, 0x04, 0x26]⟩ := by decide
theorem test_accept_reserved_untested :
    acceptStatus defaultConfig [0xFF, 0xFF, 0xFD, 0x01, 0x01, 0x04, 0x00, 0x55, 0x00, 0x7E, 0xD6] 0 = .ok ⟨0x01, 0x00, []⟩ := by
  decide
theorem test_accept_unescaped_payload :
    acceptStatus defaultConfig [0xFF, 0xFF, 0xFD, 0x00, 0x01, 0x08, 0x00, 0x55, 0x00, 0xFF, 0xFF, 0xFD, 0x00, 0x2B, 0x10] 4 =
      .ok ⟨0x01, 0x00, [0xFF, 0xFF, 0xFD, 0x00]⟩ := by decide
theorem test_accept_bad_length :
    acceptStatus defaultConfig [0xFF, 0xFF, 0xFD, 0x00, 0x01, 0x05, 0x00, 0x55, 0x00, 0x7E, 0xBA] 0 = .error .badLength := by decide
theorem test_accept_bad_instr :
    acceptStatus defaultConfig [0xFF, 0xFF, 0xFD, 0x00, 0x01, 0x04, 0x00, 0x03, 0x00, 0x78, 0x5A] 0 = .error .badInstr := by decide
theorem test_accept_crc_before_instr :
    acceptStatus defaultConfig [0xFF, 0xFF, 0xFD, 0x00, 0x01, 0x04, 0x00, 0x03, 0x00, 0x78, 0x5B] 0 = .error .badCrc := by decide
theorem test_accept_short_payload :
    acceptStatus defaultConfig [0xFF, 0xFF, 0xFD, 0x00, 0x01, 0x08, 0x00, 0x55, 0x00, 0xFF, 0xFF, 0xFD, 0xFD, 0x26, 0x92] 4 =
      .error .shortPayload := by decide

/-! ## Commands (95_test_vectors.md section 5: T1 to T8) -/

theorem test_init_broadcast : (nextOf (exec .init { State.reset with argId := 254#8 })).devId = 0xFE#8 := by decide
theorem test_init_bad_id :
    (nextOf (exec .init { State.reset with argId := 253#8 })).resCause = .rejBadId ∧
    (nextOf (exec .init { State.reset with argId := 253#8 })).hvalid = false := by decide
-- T5: bound to 1, INIT 2
theorem test_init_again :
    (nextOf (exec .init { boundTo 1#8 with argId := 2#8 })).devId = 0x01#8 ∧
    (nextOf (exec .init { boundTo 1#8 with argId := 2#8 })).resCause.code = 14#4 := by decide
theorem test_ping_no_handle :
    (nextOf (exec .ping State.reset)).resStatus.code = 4#3 ∧ (nextOf (exec .ping State.reset)).resCause.code = 8#4 := by decide
-- P1 step 3
theorem test_ping_accepted :
    (nextOf (exec .ping (boundTo 1#8))).ctx.expLen = 14#16 ∧ (nextOf (exec .ping (boundTo 1#8))).phase.code = 1#3 := by decide
theorem test_read_count_overflow : (nextOf (exec .read { boundTo 1#8 with argCount := 65#16 })).resCause = .rejCountOverflow := by decide
theorem test_read_accepted :
    (nextOf (exec .read { boundTo 1#8 with argAddr := 132#16, argCount := 64#16 })).ctx.addr = 132#16 ∧
    (nextOf (exec .read { boundTo 1#8 with argAddr := 132#16, argCount := 64#16 })).ctx.expLen = 75#16 := by decide
theorem test_write_plen_overflow : (nextOf (exec .write { boundTo 1#8 with argPlen := 65#16 })).resCause = .rejPlenOverflow := by decide
theorem test_write_accepted :
    (nextOf (exec .write { boundTo 1#8 with argPlen := 64#16 })).ctx.p = 64#16 ∧
    (nextOf (exec .write { boundTo 1#8 with argPlen := 64#16 })).ctx.expLen = 11#16 := by decide
-- T6: CMD <- 0x04
theorem test_bad_opcode : (nextOf ((boundTo 1#8).hostWrite 0 4#16)).resCause.code = 13#4 := by decide

/-! ## Packets -/

-- P3: READ 132, 4
theorem test_read_pkt_built :
    (nextOf (exec (.readPkt 1#8 7#16)
      { inCommand .read .build with ctx := { Ctx.cleared with op := .read, id := 1#8, p := 4#16, addr := 132#16, n := 4#16 } })).ctx.raw =
      [0xFF, 0xFF, 0xFD, 0x00, 0x01, 0x07, 0x00, 0x02, 0x84, 0x00, 0x04, 0x00] := by decide
-- WRITE 41 00
theorem test_write_pkt_built :
    (nextOf (exec (.writePkt 1#8 5#16) { inCommand .write .build with pbuf := [(0, 0x41#8), (1, 0x00#8)] })).ctx.raw =
      [0xFF, 0xFF, 0xFD, 0x00, 0x01, 0x05, 0x00, 0x03, 0x41, 0x00] := by decide
-- R140: no BUILD step outside phase 1
theorem test_ping_pkt_elsewhere : (nextOf (exec (.pingPkt 1#8) (inCommand .ping .stuff))).phase = .stuff := by decide
theorem test_status_pkt_verified :
    (nextOf (exec (.statusPkt 1#8 4#16) (received [0xFF, 0xFF, 0xFD, 0x00, 0x01, 0x04, 0x00, 0x55, 0x00, 0x7D, 0x2E]))).ctx.uns =
      [0x00, 0x01, 0x04, 0x00, 0x55, 0x00] := by decide
-- T13: error byte 0x80 with status OK, in phase PARSE
theorem test_status_pkt_parsed :
    (nextOf (exec (.statusPkt 1#8 4#16) { inCommand .write .parse with ctx := { Ctx.cleared with expLen := 11#16, uns := [0x00, 0x01, 0x04, 0x00, 0x55, 0x80] } })).resErr = 0x80#8 := by decide

/-! ## Steps -/

-- P1 step 6
theorem test_checksum_step :
    (nextOf (step { inCommand .ping .checksum with
      ctx := { Ctx.cleared with wire := [0xFF, 0xFF, 0xFD, 0x00, 0x01, 0x03, 0x00, 0x01] } })).ctx.wire =
      [0xFF, 0xFF, 0xFD, 0x00, 0x01, 0x03, 0x00, 0x01, 0x3A, 0x14] := by decide
-- P2: SM and K after STUFF
theorem test_stuff_step :
    (nextOf (step { inCommand .write .stuff with
      ctx := { Ctx.cleared with raw := buildWrite defaultConfig 1#8 [0xFF, 0xFF, 0xFD, 0xFF] } })).ctx.k = 1#16 := by decide
-- T9: transmit failure 7
theorem test_tx_fail :
    (nextOf (step { inCommand .ping .transmit with
      ctx := { Ctx.cleared with xpend := true }, script := [.txAnswer 7#8] })).resTstat = 7#8 := by decide
-- R27, R22, R11
theorem test_host_write_readonly : (nextOf ((boundTo 1#8).hostWrite 0x02 9#16)).devId = 1#8 := by decide
theorem test_host_write_narrow : (nextOf (State.reset.hostWrite 0x05 0x1234#16)).argId = 0x34#8 := by decide
theorem test_host_write_pbuf : (nextOf (State.reset.hostWrite 0x1003F 0xABCD#16)).readReg 0x1003F = 0x00CD#16 := by decide
theorem test_host_write_past_pbuf : (nextOf (State.reset.hostWrite 0x10040 0xABCD#16)).pbuf = [] := by decide
theorem test_host_read_gate : ({ State.reset with resPlen := 1#16, rbuf := [0x77] } : State).readReg 0x20000 = 0#16 := by decide
theorem test_host_read_rbuf :
    ({ State.reset with resValid := true, resPlen := 1#16, rbuf := [0x77, 0x88] } : State).readReg 0x20000 = 0x77#16 ∧
    ({ State.reset with resValid := true, resPlen := 1#16, rbuf := [0x77, 0x88] } : State).readReg 0x20001 = 0#16 := by decide
-- P7: STAT = 0x0E
theorem test_stat_word : ({ boundTo 1#8 with resValid := true, hosterr := true } : State).statWord = 0x0E#8 := by decide

/-! ## Witnesses: for each statement with hypotheses, values that meet all of them, clause by clause, at the bounds where there are any -/

/-- `n` markers one after the other: the parameters that the stuffer lengthens most (R106). -/
def markers : Nat → List Byte
  | 0 => []
  | n + 1 => 0xFF#8 :: 0xFF#8 :: 0xFD#8 :: markers n

theorem markers_length (n : Nat) : (markers n).length = 3 * n := by
  induction n with
  | zero => rfl
  | succ n ih => simp [markers, ih]; omega

theorem markers_stuffed (n : Nat) (x : List Byte) : (stuff (markers n ++ x)).length = 4 * n + (stuff x).length := by
  induction n with
  | zero => simp [markers]
  | succ n ih =>
    have h : stuff (markers (n + 1) ++ x) = 0xFF#8 :: 0xFF#8 :: 0xFD#8 :: 0xFD#8 :: stuff (markers n ++ x) := rfl
    rw [h]; simp only [List.length_cons, ih]; omega

theorem markers_wire (n : Nat) : (markers n).length + 3 + stuffedBytes (markers n) = 4 * n + 3 := by
  have h := markers_stuffed n []
  rw [List.append_nil, show (stuff []).length = 0 from rfl] at h
  have hl := markers_length n
  unfold stuffedBytes
  omega

theorem markers_and_one_wire (n : Nat) :
    (markers n ++ [0x00#8]).length = 3 * n + 1 ∧
    (markers n ++ [0x00#8]).length + 3 + stuffedBytes (markers n ++ [0x00#8]) = 4 * n + 4 := by
  have h := markers_stuffed n [0x00#8]
  rw [show (stuff [0x00#8]).length = 1 from rfl] at h
  have hl := markers_length n
  unfold stuffedBytes
  rw [h, List.length_append, hl, List.length_singleton]
  omega

/-- 49149 parameters whose length field is 65535, the largest that fits (R116). -/
theorem test_witness_longest_fits :
    (markers 16383).length = 49149 ∧ (markers 16383).length + 3 + stuffedBytes (markers 16383) ≤ 65535 :=
  ⟨markers_length 16383, Nat.le_of_eq (markers_wire 16383)⟩

/-- 49150 parameters whose length field is 65536, the least that does not fit (R116). -/
theorem test_witness_overflow :
    (markers 16383 ++ [0x00#8]).length = 49150 ∧
    65535 < (markers 16383 ++ [0x00#8]).length + 3 + stuffedBytes (markers 16383 ++ [0x00#8]) :=
  ⟨(markers_and_one_wire 16383).1, Nat.lt_of_lt_of_eq (by decide) (markers_and_one_wire 16383).2.symm⟩

theorem test_witness_masks :
    ([0xFF, 0xFF, 0xFD, 0x00, 0x01, 0x03, 0x00, 0x01] : List Byte).length = 8 ∧
    rowMatches [0xFF, 0xFF, 0xFF, 0xFF, 0x00, 0xFF, 0xFF, 0xFF] [0xFF, 0xFF, 0xFD, 0x00, 0x00, 0x03, 0x00, 0x01]
      [0xFF, 0xFF, 0xFD, 0x00, 0x01, 0x03, 0x00, 0x01] = true ∧
    rowMatches [0xFF, 0xFF, 0xFF, 0xFF, 0x00, 0x00, 0x00, 0xFF] [0xFF, 0xFF, 0xFD, 0x00, 0x00, 0x00, 0x00, 0x55]
      [0xFF, 0xFF, 0xFD, 0x00, 0xFF, 0x04, 0x00, 0x55] = true := by decide
theorem test_witness_table_length : defaultCrcTable.length = 256 := by decide +kernel
theorem test_witness_corrupted :
    acceptStatus defaultConfig ([0xFF, 0xFF, 0xFD, 0x00, 0x01, 0x04, 0x00, 0x55, 0x00, 0x7D] ++ [0x2E]) 0 = .ok ⟨0x01, 0x00, []⟩ ∧
    (0x2F : Byte) ≠ 0x2E := by decide
theorem test_witness_markers_escaped : markerAt (stuff [0xFF, 0xFF, 0xFD]) 0 = true := by decide
theorem test_witness_matches :
    markerAt [0xFF, 0xFF, 0xFD, 0xFF, 0xFF, 0xFD] 0 = true ∧ markerAt [0xFF, 0xFF, 0xFD, 0xFF, 0xFF, 0xFD] 3 = true := by decide
theorem test_witness_longest_params : (List.replicate 65532 (0x00#8 : Byte)).length ≤ 65532 :=
  Nat.le_of_eq List.length_replicate
theorem test_witness_header :
    (0xFE : Byte) ≠ 0xFF ∧ (0x03 : Byte) ≠ 0xFF ∧ (0x03 : Byte) ≠ 0xFD ∧ defaultConfig.wf = true ∧ validId 254 = true := by
  decide +kernel
theorem test_witness_acceptance :
    ([0xFF, 0xFF, 0xFD, 0x00, 0x01, 0x08, 0x00, 0x55, 0x00, 0xA6, 0x00, 0x00, 0x00, 0x30, 0x66] : List Byte).length = 11 + 4 ∧
    acceptStatus defaultConfig [0xFF, 0xFF, 0xFD, 0x00, 0x01, 0x08, 0x00, 0x55, 0x00, 0xA6, 0x00, 0x00, 0x00, 0x30, 0x66] 4 =
      .ok ⟨0x01, 0x00, [0xA6, 0x00, 0x00, 0x00]⟩ := by decide

/-! ### Commands -/

theorem test_witness_init :
    (State.reset.busy = false ∧ State.reset.hvalid = false ∧ State.reset.argId ≠ 253 ∧ State.reset.argId ≠ 255) ∧
    (({ State.reset with argId := 254 } : State).argId ≠ 253 ∧ ({ State.reset with argId := 254 } : State).argId ≠ 255) ∧
    ((boundTo 1).busy = false ∧ (boundTo 1).hvalid = true) ∧
    (({ State.reset with argId := 253 } : State).argId = 253 ∧ ({ State.reset with argId := 255 } : State).argId = 255) := by decide
-- the capacities are reached and passed by one
theorem test_witness_capacities :
    (boundTo 1).cfg.wf = true ∧ (64#16).toNat = (boundTo 1).cfg.maxRead ∧ (64#16).toNat = (boundTo 1).cfg.maxParams ∧
    (boundTo 1).cfg.maxRead < (65#16).toNat ∧ (boundTo 1).cfg.maxParams < (65#16).toNat := by decide +kernel
theorem test_witness_unknown_opcode :
    ({ boundTo 1 with script := [.hostWrite 0x00 0x0104] } : State).nextMove = (.hostWrite 0x00 0x0104, boundTo 1) ∧
    (boundTo 1).busy = false ∧ 0x04 ≤ (lo8 0x0104).toNat ∧ 0x04 ≤ (lo8 0x00FF).toNat :=
  ⟨rfl, rfl, by decide, by decide⟩
theorem test_witness_write_while_busy :
    ({ inCommand .ping .stuff with script := [.hostWrite 0x05 1] } : State).nextMove = (.hostWrite 0x05 1, inCommand .ping .stuff) ∧
    (inCommand .ping .stuff).busy = true := ⟨rfl, rfl⟩

/-! ### Packets and phases -/

/-- A WRITE of as many parameters as PBUF holds, in phase BUILD. -/
def writing : State :=
  { inCommand .write .build with ctx := { Ctx.cleared with op := .write, id := 1#8, p := 64#16 } }

/-- A READ in phase BUILD. -/
def reading : State :=
  { inCommand .read .build with ctx := { Ctx.cleared with op := .read, id := 1#8, p := 4#16, addr := 132#16, n := 4#16 } }

theorem test_witness_build :
    (inCommand .ping .build).nextMove = (.engine, inCommand .ping .build) ∧ (inCommand .ping .build).paramsFit ∧
    reading.paramsFit ∧ writing.paramsFit ∧ writing.busy = true ∧ writing.ctx.xpend = false ∧ writing.phase = .build ∧
    reading.phase = .build ∧ (inCommand .ping .build).phase = .build ∧ (inCommand .ping .build).ctx.op = .ping ∧
    reading.ctx.op = .read ∧ writing.ctx.op = .write :=
  ⟨rfl, rfl, rfl, by show (64#16).toNat ≤ 64; decide, rfl, rfl, rfl, rfl, rfl, rfl, rfl, rfl⟩
theorem test_witness_packets_elsewhere :
    ¬((boundTo 1).busy = true) ∧ ¬((inCommand .ping .stuff).phase = .build) ∧
    ¬((inCommand .ping .stuff).phase = .verify ∨ (inCommand .ping .stuff).phase = .parse) := by decide

/-- The reply of 95_test_vectors.md section 4.3 row 1, byte by byte, with the length field, the instruction byte and the checksum free. -/
def reply (lL code cL cH : Byte) : List Byte := [0xFF, 0xFF, 0xFD, 0x00, 0x01, lL, 0x00, code, 0x00, cL, cH]

-- VERIFY: each way out of it (rows 1, 3, 7, 2 of section 4.3), and the status packet's clauses among them
theorem test_witness_verify :
    (received (reply 0x04 0x55 0x7D 0x2E)).nextMove = (.engine, received (reply 0x04 0x55 0x7D 0x2E)) ∧
    (reply 0x04 0x55 0x7D 0x2E).length = (received (reply 0x04 0x55 0x7D 0x2E)).ctx.expLen.toNat ∧
    (reply 0x04 0x55 0x7D 0x2E).take 3 = [0xFF, 0xFF, 0xFD] ∧ (wordAt (reply 0x04 0x55 0x7D 0x2E) 5).toNat + 7 = 11 ∧
    (wordAt (reply 0x05 0x55 0x7E 0xBA) 5).toNat + 7 ≠ 11 ∧
    crc defaultCrcTable 0 (between (reply 0x04 0x55 0x7D 0x2E) 3 9) = le16 0x7D 0x2E ∧
    crc defaultCrcTable 0 (between (reply 0x04 0x55 0x7D 0x2F) 3 9) ≠ le16 0x7D 0x2F ∧
    ([0xFF, 0xFD, 0xFD] : List Byte) ≠ [0xFF, 0xFF, 0xFD] :=
  ⟨rfl, by decide, by decide, by decide, by decide, by decide, by decide, by decide⟩

theorem test_witness_status_packet :
    reply 0x04 0x55 0x7D 0x2E = [0xFF, 0xFF, 0xFD, 0x00, 0x01, lo8 4, hi8 4, 0x55] ++ (received (reply 0x04 0x55 0x7D 0x2E)).ctx.rxb.drop 8 ∧
    (4 : Word).toNat + 7 = (reply 0x04 0x55 0x7D 0x2E).length ∧ (5 : Word).toNat + 7 ≠ (reply 0x05 0x55 0x7D 0x2E).length ∧
    crcVerify defaultConfig (reply 0x04 0x55 0x7D 0x2E) = true ∧ crcVerify defaultConfig (reply 0x04 0x55 0x7D 0x2F) = false := by decide

/-- A WRITE in phase PARSE with `uns` from the unstuffer. -/
def parsing (uns : List Byte) : State :=
  { inCommand .write .parse with ctx := { Ctx.cleared with op := .write, id := 1#8, expLen := 11#16, uns := uns } }

theorem test_witness_parse :
    (parsing [0x00, 0x01, 0x04, 0x00, 0x55, 0x80]).nextMove = (.engine, parsing [0x00, 0x01, 0x04, 0x00, 0x55, 0x80]) ∧
    (parsing []).busy = true ∧ (parsing []).ctx.xpend = false ∧ (parsing []).phase = .parse ∧
    (parsing []).ctx.expLen.toNat = 11 + (parsing []).ctx.n.toNat ∧
    ([0x00, 0x01, 0x04, 0x00, 0x55, 0x80] : List Byte).length = 11 - 5 ∧ ([0x00, 0x01, 0x04, 0x00, 0x55] : List Byte).length ≠ 11 - 5 ∧
    byteAt [0x00, 0x01, 0x04, 0x00, 0x55, 0x80] 4 = 0x55 ∧ byteAt [0x00, 0x01, 0x04, 0x00, 0x03, 0x00] 4 ≠ 0x55 :=
  ⟨rfl, rfl, rfl, rfl, by decide, by decide, by decide, by decide, by decide⟩

theorem test_witness_frame :
    goesOn (exec (.pingPkt 1) (inCommand .ping .build)) = true ∧ goesOn (exec (.readPkt 1 7) reading) = true ∧
    goesOn (exec (.writePkt 1 67) writing) = true ∧ goesOn (exec (.statusPkt 1 4) (received (reply 0x04 0x55 0x7D 0x2E))) = true ∧
    goesOn (exec .init State.reset) = true ∧ goesOn (exec .ping (boundTo 1)) = true ∧ goesOn (exec .read (boundTo 1)) = true ∧
    goesOn (exec .write (boundTo 1)) = true := by decide

theorem test_witness_decoded_steps :
    ({ boundTo 1 with script := [.hostWrite 0x00 0x01] } : State).nextMove = (.hostWrite 0x00 0x01, boundTo 1) ∧
    decode (boundTo 1).cfg .command [lo8 0x01] = .ok (.ping, []) ∧
    decode defaultConfig .packet (received (reply 0x04 0x55 0x7D 0x2E)).ctx.rxb = .ok (.statusPkt 0x01 4, [0x00, 0x7D, 0x2E]) ∧
    decodeTableWord 8 1 = some .ping ∧ decodeTableWord 64 0xFFFFFD0000000055 = some (.statusPkt 0 0) :=
  ⟨rfl, rfl, by decide, by decide, by decide⟩

/-- The region of a packet to device 1: its five header bytes gain nothing (R123). -/
theorem header_stuffed (a b : Byte) (x : List Byte) :
    (stuff (0x00#8 :: 0x01#8 :: a :: b :: 0x03#8 :: x)).length = 5 + (stuff x).length := by
  have h0 : ¬ (0x00#8 : Byte) = mark1 := by decide
  have h1 : ¬ (0x01#8 : Byte) = mark1 := by decide
  have h3 : ¬ (0x03#8 : Byte) = mark1 := by decide
  have h4 : ¬ (0x03#8 : Byte) = mark2 := by decide
  by_cases ha : a = mark1 <;> by_cases hb : b = mark1 <;>
    simp [stuff, stuffFrom, stuffByte, StuffScan.bump, h0, h1, h3, h4, ha, hb] <;> omega

/-- A WRITE to device 1 in phase STUFF whose parameters are the list `x`. -/
def stuffing (x : List Byte) (p : Word) : State :=
  { inCommand .write .stuff with
    ctx := { Ctx.cleared with op := .write, id := 1#8, p := p, raw := rawPacket 1#8 (p + 3#16) 0x03#8 x } }

theorem stuffing_length (x : List Byte) (p : Word) : (stuff ((stuffing x p).ctx.raw.drop 3)).length = 5 + (stuff x).length :=
  header_stuffed _ _ x

theorem stuffing_raw (x : List Byte) (p : Word) : (stuffing x p).ctx.raw.length = 8 + x.length := by
  simp [stuffing, rawPacket, packetHeader]; omega

-- STUFF with a length that fits with nothing to spare, and with one parameter more
theorem test_witness_stuff :
    (stuffing (markers 16383) 49149#16).nextMove = (.engine, stuffing (markers 16383) 49149#16) ∧
    (stuffing (markers 16383) 49149#16).ctx.raw.length = 8 + 49149 ∧
    (stuff ((stuffing (markers 16383) 49149#16).ctx.raw.drop 3)).length = 49149 + 5 + 16383 ∧
    (stuffing (markers 16383 ++ [0x00#8]) 49150#16).ctx.raw.length = 8 + 49150 ∧
    (stuff ((stuffing (markers 16383 ++ [0x00#8]) 49150#16).ctx.raw.drop 3)).length = 49150 + 5 + 16383 := by
  refine ⟨rfl, ?_, ?_, ?_, ?_⟩
  · rw [stuffing_raw, test_witness_longest_fits.1]
  · have h := markers_stuffed 16383 []
    rw [List.append_nil, show (stuff []).length = 0 from rfl] at h
    rw [stuffing_length, h]
  · rw [stuffing_raw, test_witness_overflow.1]
  · have h := markers_stuffed 16383 [0x00#8]
    rw [show (stuff [0x00#8]).length = 1 from rfl] at h
    rw [stuffing_length, h]

theorem test_witness_checksum :
    (inCommand .ping .checksum).nextMove = (.engine, inCommand .ping .checksum) ∧ (inCommand .ping .checksum).busy = true ∧
    (inCommand .ping .checksum).ctx.xpend = false ∧ (inCommand .ping .checksum).phase = .checksum ∧
    ([0xFF, 0xFF, 0xFD, 0x00, 0x01, 0x03, 0x00, 0x01] : List Byte).length = 8 + (0#16).toNat + (0#16).toNat :=
  ⟨rfl, rfl, rfl, rfl, by decide⟩
theorem test_witness_requests :
    (inCommand .ping .transmit).nextMove = (.engine, inCommand .ping .transmit) ∧ (inCommand .ping .transmit).ctx.xpend = false ∧
    (inCommand .ping .receive).nextMove = (.engine, inCommand .ping .receive) ∧ (inCommand .ping .receive).ctx.xpend = false :=
  ⟨rfl, rfl, rfl, rfl⟩

/-- `s` with a request outstanding and the move `m` about to come. -/
def awaiting (s : State) (m : Move) : State := { s with ctx := { s.ctx with xpend := true }, script := [m] }

theorem test_witness_transmit_answers :
    (awaiting (inCommand .ping .transmit) (.txAnswer 0)).nextMove =
      (.txAnswer 0, { awaiting (inCommand .ping .transmit) (.txAnswer 0) with script := [] }) ∧
    (awaiting (inCommand .ping .transmit) (.txAnswer 1)).ctx.xpend = true ∧ (inCommand .ping .transmit).ctx.id ≠ 254 ∧
    ({ inCommand .ping .transmit with ctx := { (inCommand .ping .transmit).ctx with id := 254 } } : State).ctx.id = 254 ∧ (1 : Byte) ≠ 0 :=
  ⟨rfl, rfl, by decide, rfl, by decide⟩
theorem test_witness_receive_answers :
    (awaiting (inCommand .ping .receive) (.rxAnswer 0 [])).nextMove =
      (.rxAnswer 0 [], { awaiting (inCommand .ping .receive) (.rxAnswer 0 []) with script := [] }) ∧
    (awaiting (inCommand .ping .receive) (.rxAnswer 0 [])).ctx.xpend = true ∧
    ([] : List Byte).length = (inCommand .ping .receive).ctx.expLen.toNat ∧ (0xFF : Byte) ≠ 0 :=
  ⟨rfl, rfl, rfl, by decide⟩
theorem test_witness_waits :
    (boundTo 1).nextMove = (.engine, boundTo 1) ∧ (boundTo 1).busy = false ∧
    ({ boundTo 1 with script := [.txAnswer 0] } : State).nextMove = (.txAnswer 0, boundTo 1) ∧
    ({ boundTo 1 with script := [.rxAnswer 0 [0x00]] } : State).nextMove = (.rxAnswer 0 [0x00], boundTo 1) ∧
    (boundTo 1).ctx.xpend = false := ⟨rfl, rfl, rfl, rfl, rfl⟩

/-! ### Whole transactions and invariants -/

/-- A PING to device `id` in flight, as the phases before `ph` leave it, with the reply `rx` received and `uns` made of it. -/
def pinging (id : Byte) (ph : Phase) (x : Bool) (rx uns : List Byte) : State :=
  { boundTo id with
    busy := true
    phase := ph
    ctx := { Ctx.cleared with
      op := .ping, id := id, n := 3#16, expLen := 14#16, raw := buildPing defaultConfig id
      wire := if ph = .checksum then buildPing defaultConfig id else crcAppend defaultConfig (buildPing defaultConfig id)
      rxb := rx, uns := uns, xpend := x }
    issued := match ph, x with
      | .transmit, true => [.transmit (crcAppend defaultConfig (buildPing defaultConfig id)) 50#16]
      | .receive, false => [.transmit (crcAppend defaultConfig (buildPing defaultConfig id)) 50#16]
      | .receive, true => [.transmit (crcAppend defaultConfig (buildPing defaultConfig id)) 50#16, .receive 14#16 50#16]
      | .verify, _ => [.transmit (crcAppend defaultConfig (buildPing defaultConfig id)) 50#16, .receive 14#16 50#16]
      | .parse, _ => [.transmit (crcAppend defaultConfig (buildPing defaultConfig id)) 50#16, .receive 14#16 50#16]
      | _, _ => [] }

/-- Such a state meets the invariant. -/
theorem pinging_inv (id : Byte) (ph : Phase) (x : Bool) (rx uns : List Byte) (hid : validId id = true)
    (hf : finalize (buildPing defaultConfig id) = some (buildPing defaultConfig id, 0))
    (hph : ph ≠ .idle) (hx : x = true → ph = .transmit ∨ ph = .receive)
    (hb : ph = .receive ∨ ph = .verify ∨ ph = .parse → id ≠ idBroadcast)
    (hrx : ph = .verify ∨ ph = .parse → rx.length = 14)
    (hv : ph = .parse → checkMarker rx = true ∧ checkLength rx = true ∧ crcVerify defaultConfig rx = true ∧ uns = unstuff (replyRegion rx)) :
    Inv (pinging id ph x rx uns) := by
  refine ⟨⟨⟨fun _ => hph, fun _ => rfl⟩, hx⟩, fun _ => hid, ⟨test_default_config, ⟨List.Pairwise.nil, fun e he => nomatch he⟩, Nat.zero_le _⟩,
    ⟨rfl, (by show 0#8 ≠ 0#8 ↔ Status.ok = .transport; decide), (fun h => nomatch h), fun _ => ⟨rfl, rfl⟩⟩,
    fun _ => ⟨rfl, rfl, rfl, (by show 3 ≤ 64; decide), (by show 14#16 = expectedLen 3#16; decide), hb⟩, ?_, ?_⟩
  · have hm : (finalize (buildPing defaultConfig id)).map (fun w => crcAppend defaultConfig w.1) =
        some (crcAppend defaultConfig (buildPing defaultConfig id)) := by rw [hf]; rfl
    cases ph with
    | idle => trivial
    | build => trivial
    | stuff => exact rfl
    | checksum => exact ⟨rfl, hf⟩
    | transmit => exact ⟨rfl, hm⟩
    | receive => exact ⟨rfl, hm⟩
    | verify => exact ⟨rfl, hm, hrx (.inl rfl)⟩
    | parse => exact ⟨rfl, hm, hrx (.inr rfl), hv rfl⟩
  · cases ph <;> cases x <;> first | rfl | trivial

/-- PING to device 1 (R123: nothing in it is stuffed). -/
theorem ping_one : finalize (buildPing defaultConfig 1) = some (buildPing defaultConfig 1, 0) := by decide
theorem ping_all : finalize (buildPing defaultConfig 254) = some (buildPing defaultConfig 254, 0) := by decide

/-- The ping reply of P1 (95_test_vectors.md section 5.2): 14 bytes, the checksum's last byte free. -/
def pingReply (code cL cH : Byte) : List Byte := [0xFF, 0xFF, 0xFD, 0x00, 0x01, 0x07, 0x00, code, 0x00, 0x06, 0x04, 0x26, cL, cH]

/-- An idle engine with parameters `c`, bound to `id`, its PBUF and operands as given, and moves to come. -/
def idleWith (c : Config) (id : Byte) (m : Memory) (plen : Word) (moves : List Move) : State :=
  { boundTo id with cfg := c, pbuf := m, argPlen := plen, script := moves }

theorem idleWith_inv (c : Config) (id : Byte) (m : Memory) (plen : Word) (moves : List Move) (hc : c.wf = true) (hid : validId id = true)
    (hm : Memory.wf c.maxParams m) : Inv (idleWith c id m plen moves) :=
  ⟨⟨⟨(fun h => nomatch h), (fun h => absurd rfl h)⟩, (fun h => nomatch h)⟩, fun _ => hid, ⟨hc, hm, Nat.zero_le _⟩,
    ⟨rfl, (by show 0#8 ≠ 0#8 ↔ Status.ok = .transport; decide), (fun h => nomatch h), (fun h => nomatch h)⟩, (fun h => nomatch h), trivial, trivial⟩

/-- The cells of a byte string from index `i` on. -/
def cellsFrom : Nat → List Byte → Memory
  | _, [] => []
  | i, b :: x => (i, b) :: cellsFrom (i + 1) x

theorem cellsFrom_bounds (i : Nat) (x : List Byte) : ∀ e ∈ cellsFrom i x, i ≤ e.1 ∧ e.1 < i + x.length := by
  induction x generalizing i with
  | nil => intro e he; cases he
  | cons b x ih =>
    intro e he
    rcases List.mem_cons.1 he with rfl | he
    · exact ⟨Nat.le_refl _, by simp⟩
    · have := ih (i + 1) e he
      simp only [List.length_cons]; omega

theorem cellsFrom_wf (x : List Byte) : Memory.wf x.length (cellsFrom 0 x) := by
  refine ⟨?_, fun e he => by have := cellsFrom_bounds 0 x e he; omega⟩
  generalize 0 = i
  induction x generalizing i with
  | nil => exact List.Pairwise.nil
  | cons b x ih =>
    refine List.pairwise_cons.2 ⟨fun e he => ?_, ih (i + 1)⟩
    have := cellsFrom_bounds (i + 1) x e he
    show i < e.1
    omega

theorem cellsFrom_read (i k : Nat) (x : List Byte) (h : k < x.length) : Memory.read? (i + k) (cellsFrom i x) = x[k]? := by
  induction x generalizing i k with
  | nil => cases h
  | cons b x ih =>
    cases k with
    | zero => simp [cellsFrom, Memory.read?]
    | succ k =>
      have h' : k < x.length := by simpa using h
      have := ih (i + 1) k h'
      rw [show i + 1 + k = i + (k + 1) by omega] at this
      simp [cellsFrom, Memory.read?, this]

/-- PBUF reads back as the byte string its cells were made of. -/
theorem pbufBytes_cells (s : State) (x : List Byte) (h : s.pbuf = cellsFrom 0 x) : s.pbufBytes x.length = x := by
  apply List.ext_getElem?
  intro k
  by_cases hk : k < x.length
  · have := cellsFrom_read 0 k x hk
    rw [Nat.zero_add] at this
    simp [State.pbufBytes, hk, State.pbufByte, h, this]
  · simp [State.pbufBytes, Nat.not_lt.1 hk]

/-- Parameters that make room for 49150 bytes. -/
def roomy : Config := { defaultConfig with maxParams := 49150 }

/-- The 49150 parameters of `test_witness_overflow`. -/
@[irreducible] def tooLong : List Byte := markers 16383 ++ [0x00#8]

theorem tooLong_length : tooLong.length = 49150 := by unfold tooLong; exact test_witness_overflow.1

theorem tooLong_overflows : 65535 < tooLong.length + 3 + stuffedBytes tooLong := by unfold tooLong; exact test_witness_overflow.2

theorem tooLong_stuffed : (stuff tooLong).length = 65533 := by
  unfold tooLong
  exact markers_stuffed 16383 [0x00#8]

theorem roomy_wf : roomy.wf = true := by decide +kernel

theorem tooLong_cells : Memory.wf roomy.maxParams (cellsFrom 0 tooLong) := by
  have h := cellsFrom_wf tooLong
  rw [tooLong_length] at h
  exact h

theorem tooLong_packet (moves : List Move) :
    (idleWith roomy 1 (cellsFrom 0 tooLong) 49150#16 moves).commandPacket .write = (0x03#8, tooLong) := by
  have h := pbufBytes_cells (idleWith roomy 1 (cellsFrom 0 tooLong) 49150#16 moves) tooLong rfl
  rw [tooLong_length] at h
  show (0x03#8, State.pbufBytes _ _) = _
  rw [show (idleWith roomy 1 (cellsFrom 0 tooLong) 49150#16 moves).argPlen.toNat = 49150 from rfl, h]

-- a PING fits, a WRITE of `tooLong` does not
theorem test_witness_sends :
    (Inv (idleWith defaultConfig 1 [] 0 [.hostWrite 0x00 0x01]) ∧
      (idleWith defaultConfig 1 [] 0 [.hostWrite 0x00 0x01]).acceptable .ping ∧ Op.opcode .ping = 0x01 ∧
      (idleWith defaultConfig 1 [] 0 [.hostWrite 0x00 0x01]).commandPacket .ping = (0x01, []) ∧
      ([] : List Byte).length + 3 + stuffedBytes [] ≤ 65535) ∧
    (Inv (idleWith roomy 1 (cellsFrom 0 tooLong) 49150#16 [.hostWrite 0x00 0x03]) ∧
      (idleWith roomy 1 (cellsFrom 0 tooLong) 49150#16 [.hostWrite 0x00 0x03]).acceptable .write ∧ Op.opcode .write = 0x03 ∧
      (idleWith roomy 1 (cellsFrom 0 tooLong) 49150#16 [.hostWrite 0x00 0x03]).commandPacket .write = (0x03#8, tooLong) ∧
      65535 < tooLong.length + 3 + stuffedBytes tooLong) :=
  ⟨⟨idleWith_inv _ _ _ _ _ test_default_config (by decide) (Memory.nil_wf _),
      ⟨rfl, rfl, nofun, nofun, nofun⟩, rfl, rfl, by decide⟩,
    ⟨idleWith_inv _ _ _ _ _ roomy_wf (by decide) tooLong_cells,
      ⟨rfl, rfl, nofun, nofun, fun _ => Nat.le_refl 49150⟩, rfl, tooLong_packet _, tooLong_overflows⟩⟩

-- a PING of device 1 and one of all devices
theorem test_witness_whole :
    Inv (idleWith defaultConfig 1 [] 0 [.hostWrite 0x00 0x01, .engine, .engine, .engine, .engine, .txAnswer 0, .engine,
      .rxAnswer 0 (pingReply 0x55 0xC1 0x97)]) ∧ (1 : Byte) ≠ 254 ∧ (pingReply 0x55 0xC1 0x97).length = 11 + defaultConfig.pingReplyExtra ∧
    Inv (idleWith defaultConfig 254 [] 0 [.hostWrite 0x00 0x01, .engine, .engine, .engine, .engine, .txAnswer 0]) ∧
    (idleWith defaultConfig 254 [] 0 [.hostWrite 0x00 0x01, .engine, .engine, .engine, .engine, .txAnswer 0]).acceptable .ping ∧
    (idleWith defaultConfig 254 [] 0 []).devId = 254 :=
  ⟨idleWith_inv _ _ _ _ _ test_default_config (by decide) (Memory.nil_wf _), by decide, rfl,
    idleWith_inv _ _ _ _ _ test_default_config (by decide) (Memory.nil_wf _), ⟨rfl, rfl, nofun, nofun, nofun⟩, rfl⟩

theorem test_witness_acceptance_refinement :
    (received (pingReply 0x55 0xC1 0x97)).script = [] ∧ (received (pingReply 0x55 0xC1 0x97)).busy = true ∧
    (received (pingReply 0x55 0xC1 0x97)).ctx.xpend = false ∧ (received (pingReply 0x55 0xC1 0x97)).phase = .verify ∧
    (received (pingReply 0x55 0xC1 0x97)).ctx.rxb.length = (received (pingReply 0x55 0xC1 0x97)).ctx.expLen.toNat ∧
    (received (pingReply 0x55 0xC1 0x97)).ctx.expLen.toNat = 11 + (received (pingReply 0x55 0xC1 0x97)).ctx.n.toNat := by decide

theorem test_witness_phase_transition :
    SequencerInv (inCommand .ping .build) ∧ (inCommand .ping .build).nextMove.1 ≠ .reset ∧
    (nextOf (step (inCommand .ping .build))).phase ≠ (inCommand .ping .build).phase ∧ goesOn (step (inCommand .ping .build)) = true :=
  ⟨⟨⟨fun _ => by decide, fun _ => rfl⟩, fun h => nomatch h⟩, by decide, by decide, by decide⟩

theorem test_witness_broadcast :
    Inv (pinging 254 .transmit true [] []) ∧ (pinging 254 .transmit true [] []).hvalid = true ∧
    (pinging 254 .transmit true [] []).devId = 254 ∧
    (∀ r ∈ (pinging 254 .transmit true [] []).issued, ∃ data timeout, r = .transmit data timeout) :=
  ⟨pinging_inv _ _ _ _ _ (by decide) ping_all (by decide) (by decide) (by decide) (by decide) (by decide), rfl, rfl, by
    intro r hr; exact ⟨_, _, List.mem_singleton.1 hr⟩⟩

/-- A busy state of the invariant whose next step ends the command with cause `c`. -/
def EndsWith (s : State) (c : Cause) : Prop :=
  Inv s ∧ s.busy = true ∧ s.nextMove.1 ≠ .reset ∧ goesOn (step s) = true ∧ (nextOf (step s)).busy = false ∧ (nextOf (step s)).resCause = c

theorem test_witness_ends_tx :
    EndsWith { pinging 1 .transmit true [] [] with script := [.txAnswer 7] } .txFail ∧
    EndsWith { pinging 254 .transmit true [] [] with script := [.txAnswer 0] } .none :=
  ⟨⟨pinging_inv 1 .transmit true [] [] (by decide) ping_one (by decide) (by decide) (by decide) (by decide) (by decide), rfl, by decide, by decide, by decide, by decide⟩,
    ⟨pinging_inv 254 .transmit true [] [] (by decide) ping_all (by decide) (by decide) (by decide) (by decide) (by decide), rfl, by decide, by decide, by decide, by decide⟩⟩

theorem test_witness_ends_rx :
    EndsWith { pinging 1 .receive true [] [] with script := [.rxAnswer 7 [0xFF]] } .rxFail :=
  ⟨pinging_inv 1 .receive true [] [] (by decide) ping_one (by decide) (by decide) (by decide) (by decide) (by decide), rfl, by decide, by decide, by decide, by decide⟩

theorem test_witness_ends_verify :
    EndsWith (pinging 1 .verify false (0x00 :: (pingReply 0x55 0xC1 0x97).drop 1) []) .badMarker ∧
    EndsWith (pinging 1 .verify false ((pingReply 0x55 0xC1 0x97).set 5 0x08) []) .badLength ∧
    EndsWith (pinging 1 .verify false (pingReply 0x55 0xC1 0x98) []) .badCrc :=
  ⟨⟨pinging_inv _ _ _ _ _ (by decide) ping_one (by decide) (by decide) (by decide) (by decide) (by decide), rfl, by decide, by decide, by decide, by decide⟩,
    ⟨pinging_inv _ _ _ _ _ (by decide) ping_one (by decide) (by decide) (by decide) (by decide) (by decide), rfl, by decide, by decide, by decide, by decide⟩,
    ⟨pinging_inv _ _ _ _ _ (by decide) ping_one (by decide) (by decide) (by decide) (by decide) (by decide), rfl, by decide, by decide, by decide, by decide⟩⟩

/-- A reply of the size of a ping reply whose region holds FF FF FD FD, and whose checksum is right. -/
def escapedReply : List Byte := crcAppend defaultConfig [0xFF, 0xFF, 0xFD, 0x00, 0x01, 0x07, 0x00, 0x55, 0xFF, 0xFF, 0xFD, 0xFD]

/-- A reply of the right size with the instruction code of WRITE and a right checksum. -/
def echoReply : List Byte := crcAppend defaultConfig [0xFF, 0xFF, 0xFD, 0x00, 0x01, 0x07, 0x00, 0x03, 0x00, 0x06, 0x04, 0x26]

theorem test_witness_ends_parse :
    EndsWith (pinging 1 .parse false escapedReply (unstuff (replyRegion escapedReply))) .shortPayload ∧
    EndsWith (pinging 1 .parse false echoReply (unstuff (replyRegion echoReply))) .badInstr ∧
    EndsWith (pinging 1 .parse false (pingReply 0x55 0xC1 0x97) (unstuff (replyRegion (pingReply 0x55 0xC1 0x97)))) .none :=
  ⟨⟨pinging_inv _ _ _ _ _ (by decide) ping_one (by decide) (by decide) (by decide) (by decide) (by decide), rfl, by decide, by decide, by decide, by decide⟩,
    ⟨pinging_inv _ _ _ _ _ (by decide) ping_one (by decide) (by decide) (by decide) (by decide) (by decide), rfl, by decide, by decide, by decide, by decide⟩,
    ⟨pinging_inv _ _ _ _ _ (by decide) ping_one (by decide) (by decide) (by decide) (by decide) (by decide), rfl, by decide, by decide, by decide, by decide⟩⟩

/-- A WRITE of 49150 parameters `x` in phase STUFF. -/
def writingBytes (x : List Byte) : State :=
  { idleWith roomy 1 (cellsFrom 0 x) 49150#16 [] with
    busy := true, phase := .stuff
    ctx := { Ctx.cleared with op := .write, id := 1#8, p := 49150#16, expLen := 11#16, raw := rawPacket 1#8 49153#16 0x03#8 x } }

theorem writing_overflows (x : List Byte) (hx : x.length = 49150) (hxs : (stuff x).length = 65533) :
    EndsWith (writingBytes x) .rejLenOverflow := by
  have hraw : (writingBytes x).ctx.raw = buildWrite roomy 1#8 x := by
    show rawPacket 1#8 49153#16 0x03#8 x = rawPacket 1#8 (BitVec.ofNat 16 (lenPre x.length)) 0x03#8 x
    rw [hx]; rfl
  have hpb := pbufBytes_cells (writingBytes x) x rfl
  rw [hx] at hpb
  have hfin : finalize (writingBytes x).ctx.raw = none := by
    have hl : (writingBytes x).ctx.raw.length = 8 + 49150 := by
      show (rawPacket 1#8 49153#16 0x03#8 x).length = _
      simp only [rawPacket, packetHeader, List.length_append, hx]; rfl
    have hs : (stuffRegion (writingBytes x).ctx.raw).1.length = 65538 := by
      have h := header_stuffed (lo8 49153#16) (hi8 49153#16) x
      rw [hxs] at h
      exact h
    have hw : wireLen (writingBytes x).ctx.raw = 65536 := by
      unfold wireLen lenPost insertedCount
      rw [hs, List.length_drop, hl]
    unfold finalize
    rw [if_pos (by rw [hw]; decide)]
  have hstep : step (writingBytes x) = .next (writingBytes x).stuffStep := rfl
  have hst : (writingBytes x).stuffStep = State.raise { (writingBytes x) with ctx := { (writingBytes x).ctx with
      k := BitVec.ofNat 16 (insertedCount (writingBytes x).ctx.raw), sm := (stuffRegion (writingBytes x).ctx.raw).2 } } .rejLenOverflow := by
    unfold State.stuffStep
    rw [hfin]
  refine ⟨⟨⟨⟨fun _ => nofun, fun _ => rfl⟩, fun h => nomatch h⟩, fun _ => (by decide : validId 1#8 = true), ⟨roomy_wf, (by have h := cellsFrom_wf x; rw [hx] at h; exact h), Nat.zero_le _⟩,
    ⟨rfl, (by show 0#8 ≠ 0#8 ↔ Status.ok = .transport; decide), (fun h => nomatch h), fun _ => ⟨rfl, rfl⟩⟩,
    fun _ => ⟨rfl, rfl, Nat.le_refl 49150, Nat.zero_le _, (by show 11#16 = expectedLen 0#16; decide), nofun⟩, ?_, rfl⟩, rfl, nofun, ?_, ?_, ?_⟩
  · show (writingBytes x).ctx.raw = buildWrite roomy 1#8 ((writingBytes x).pbufBytes 49150)
    rw [hraw, hpb]
  · rw [hstep]; rfl
  · rw [hstep, hst]; rfl
  · rw [hstep, hst]; rfl

theorem test_witness_ends_stuff : EndsWith (writingBytes tooLong) .rejLenOverflow := writing_overflows _ tooLong_length tooLong_stuffed

-- the engine's turn, and both answers
theorem test_witness_awaited :
    Inv (pinging 1 .build false [] []) ∧ (pinging 1 .build false [] []).awaited .engine = true ∧
    Inv (pinging 1 .transmit true [] []) ∧ (pinging 1 .transmit true [] []).awaited (.txAnswer 0) = true ∧
    Inv (pinging 1 .receive true [] []) ∧ (pinging 1 .receive true [] []).awaited (.rxAnswer 0 (pingReply 0x55 0xC1 0x97)) = true ∧
    (pinging 1 .receive true [] []).awaited (.rxAnswer 1 []) = true ∧
    ({ pinging 1 .transmit true [] [] with script := [.txAnswer 0] } : State).nextMove = (.txAnswer 0, pinging 1 .transmit true [] []) :=
  ⟨pinging_inv _ _ _ _ _ (by decide) ping_one (by decide) (by decide) (by decide) (by decide) (by decide), by decide,
    pinging_inv _ _ _ _ _ (by decide) ping_one (by decide) (by decide) (by decide) (by decide) (by decide), by decide,
    pinging_inv _ _ _ _ _ (by decide) ping_one (by decide) (by decide) (by decide) (by decide) (by decide), by decide, by decide, rfl⟩

/-- The step of `s` goes on and leaves the requests `r`. -/
def Leaves (s : State) (r : List Request) : Prop := Inv s ∧ goesOn (step s) = true ∧ (nextOf (step s)).issued = r

-- the four ways a step treats the requests: left alone, emptied at accept and at reset, a transmit added, a receive added
theorem test_witness_one_exchange :
    Leaves (pinging 1 .verify false (pingReply 0x55 0xC1 0x97) [])
      [.transmit (crcAppend defaultConfig (buildPing defaultConfig 1)) 50#16, .receive 14#16 50#16] ∧
    Leaves { idleWith defaultConfig 1 [] 0 [.hostWrite 0x00 0x01] with issued := [.transmit [] 50#16] } [] ∧
    Leaves { pinging 1 .receive true [] [] with script := [.reset] } [] ∧
    Leaves (pinging 1 .transmit false [] []) [.transmit (crcAppend defaultConfig (buildPing defaultConfig 1)) 50#16] ∧
    Leaves (pinging 1 .receive false [] [])
      [.transmit (crcAppend defaultConfig (buildPing defaultConfig 1)) 50#16, .receive 14#16 50#16] := by
  have hi := idleWith_inv defaultConfig 1 [] 0 [.hostWrite 0x00 0x01] test_default_config (by decide) (Memory.nil_wf _)
  exact ⟨⟨pinging_inv _ _ _ _ _ (by decide) ping_one (by decide) (by decide) (by decide) (by decide) (by decide), by decide, by decide⟩,
    ⟨⟨hi.1, hi.2.1, hi.2.2.1, hi.2.2.2.1, hi.2.2.2.2.1, trivial, trivial⟩, by decide, by decide⟩,
    ⟨pinging_inv 1 .receive true [] [] (by decide) ping_one (by decide) (by decide) (by decide) (by decide) (by decide), by decide, by decide⟩,
    ⟨pinging_inv _ _ _ _ _ (by decide) ping_one (by decide) (by decide) (by decide) (by decide) (by decide), by decide, by decide⟩,
    ⟨pinging_inv _ _ _ _ _ (by decide) ping_one (by decide) (by decide) (by decide) (by decide) (by decide), by decide, by decide⟩⟩

theorem test_witness_orderly :
    Inv (pinging 1 .receive true [] []) ∧ (pinging 1 .receive true [] []).orderly (.rxAnswer 0 (pingReply 0x55 0xC1 0x97)) = true ∧
    (pinging 1 .receive true [] []).orderly (.rxAnswer 0 []) = false ∧ (boundTo 1).orderly (.hostWrite 0x00 0x01) = true ∧
    (pinging 1 .receive true [] []).orderly (.hostWrite 0x00 0x01) = false :=
  ⟨pinging_inv _ _ _ _ _ (by decide) ping_one (by decide) (by decide) (by decide) (by decide) (by decide), by decide, by decide, by decide, by decide⟩

/-- A state of the invariant in each phase that fills a buffer. -/
theorem test_witness_buffers :
    Inv (pinging 1 .stuff false [] []) ∧ Inv (pinging 1 .checksum false [] []) ∧ Inv (pinging 1 .verify false (pingReply 0x55 0xC1 0x97) []) ∧
    Inv (pinging 1 .parse false (pingReply 0x55 0xC1 0x97) (unstuff (replyRegion (pingReply 0x55 0xC1 0x97)))) :=
  ⟨pinging_inv _ _ _ _ _ (by decide) ping_one (by decide) (by decide) (by decide) (by decide) (by decide),
    pinging_inv _ _ _ _ _ (by decide) ping_one (by decide) (by decide) (by decide) (by decide) (by decide),
    pinging_inv _ _ _ _ _ (by decide) ping_one (by decide) (by decide) (by decide) (by decide) (by decide),
    pinging_inv _ _ _ _ _ (by decide) ping_one (by decide) (by decide) (by decide) (by decide) (by decide)⟩

/-! ### Registers -/

theorem test_witness_pbuf_form : Memory.wf 64 [(0, 0x41#8), (63, 0x00#8)] := by decide

-- INIT binds: DEV_ID changes, and HVALID rises
theorem test_witness_bind :
    ({ State.reset with argId := 1, script := [.hostWrite 0x00 0x00] } : State).nextMove =
      (.hostWrite 0x00 0x00, { State.reset with argId := 1 }) ∧
    (nextOf (step { State.reset with argId := 1, script := [.hostWrite 0x00 0x00] })).hvalid = true ∧
    goesOn (step (pinging 1 .transmit true [] [])) = true := ⟨rfl, by decide, by decide⟩
theorem test_witness_host_error :
    (inCommand .ping .stuff).hosterr = false ∧
    (nextOf (step { inCommand .ping .stuff with script := [.hostWrite 0x55 0] })).hosterr = true ∧
    (nextOf (step { State.reset with hosterr := true })).hosterr = true := by decide
theorem test_witness_operands :
    (inCommand .ping .build).nextMove = (.engine, inCommand .ping .build) ∧ goesOn (step (inCommand .ping .build)) = true ∧
    goesOn (step { boundTo 1 with script := [.hostWrite 0x00 0x01] }) = true := ⟨rfl, by decide, by decide⟩
theorem test_witness_gate :
    (boundTo 1).resValid = false ∧ (boundTo 1).cfg.wf = true ∧ 63 < (boundTo 1).cfg.maxRead ∧
    ({ boundTo 1 with resValid := true, resPlen := 63 } : State).resPlen.toNat ≤ 63 ∧
    62 < ({ boundTo 1 with resValid := true, resPlen := 63 } : State).resPlen.toNat ∧
    (nextOf (step (parsing [0x00, 0x01, 0x04, 0x00, 0x55, 0x80]))).resErr ≠ (parsing [0x00, 0x01, 0x04, 0x00, 0x55, 0x80]).resErr := by
  decide +kernel
theorem test_witness_registers :
    ({ boundTo 1 with script := [.hostWrite 0x03 7] } : State).nextMove = (.hostWrite 0x03 7, boundTo 1) ∧
    0x10000 ≤ 0x1003F ∧ 0x1003F < 0x10000 + (boundTo 1).cfg.maxParams ∧ 0x10000 + (boundTo 1).cfg.maxParams ≤ 0x10040 ∧
    0x20000 + (boundTo 1).cfg.maxRead ≤ 0x20040 ∧ 0x0F < 0x10 ∧ 0x10 < 0x10000 ∧ 0x0F < 0xFFFF ∧ 0xFFFF < 0x10000 ∧
    0x10000 + (boundTo 1).cfg.maxParams ≤ 0x1FFFF ∧ 0x1FFFF < 0x20000 :=
  ⟨rfl, by decide, by decide, by decide, by decide, by decide, by decide, by decide, by decide, by decide, by decide⟩
theorem test_witness_reads :
    ({ boundTo 1 with script := [.hostRead 0x01] } : State).nextMove = (.hostRead 0x01, boundTo 1) ∧
    Inv (pinging 1 .transmit true [] []) ∧ (pinging 1 .transmit true [] []).busy = true :=
  ⟨rfl, pinging_inv _ _ _ _ _ (by decide) ping_one (by decide) (by decide) (by decide) (by decide) (by decide), rfl⟩
theorem test_witness_reset :
    ({ pinging 1 .transmit true [] [] with script := [.reset] } : State).nextMove = (.reset, pinging 1 .transmit true [] []) ∧
    (State.afterReset defaultConfig 1 [.rxAnswer 0 []]).nextMove = (.rxAnswer 0 [], State.afterReset defaultConfig 1 []) ∧
    (State.afterReset defaultConfig 1 [.txAnswer 0]).nextMove = (.txAnswer 0, State.afterReset defaultConfig 1 []) := ⟨rfl, rfl, rfl⟩

end Sys2Proof.Tests
end

section
/-! SUPPORT. How long the stuffer, the unstuffer and `finalize` make a packet, and that the header is never stuffed. -/

namespace Sys2Proof.Machine

/-- How many bytes FF of a marker the scan state SM remembers. -/
def StuffScan.pending : StuffScan → Nat
  | .zero => 0
  | .one => 1
  | .two => 2

/-- The budget of R106 on one byte: each input byte pays for four thirds of a byte, and what a possible marker has not yet used stays
in SM. -/
theorem length_stuffByte_le (sm : StuffScan) (b : Byte) :
    3 * (stuffByte sm b).1.length + (stuffByte sm b).2.pending ≤ 4 + sm.pending := by
  unfold stuffByte
  split
  · next h => simp [h.1, StuffScan.pending]
  · split
    · cases sm <;> simp [StuffScan.bump, StuffScan.pending]
    · exact Nat.le_add_right_of_le (by decide : 3 ≤ 4)

theorem length_stuffFrom_le (sm : StuffScan) (x : List Byte) :
    3 * (stuffFrom sm x).1.length ≤ 4 * x.length + sm.pending := by
  induction x generalizing sm with
  | nil => simp [stuffFrom]
  | cons b x ih =>
    have hb := length_stuffByte_le sm b
    have hx := ih (stuffByte sm b).2
    simp only [stuffFrom, List.length_append, List.length_cons]
    omega

/-- Stuffing adds at most a third (R106). -/
theorem length_stuff_le (x : List Byte) : (stuff x).length ≤ x.length + x.length / 3 := by
  have h : 3 * (stuff x).length ≤ 4 * x.length := length_stuffFrom_le .zero x
  omega

theorem length_unstuffByte_le (um : UnstuffScan) (b : Byte) : (unstuffByte um b).1.length ≤ 1 := by
  unfold unstuffByte
  repeat' split
  all_goals simp

theorem length_unstuffFrom_le (um : UnstuffScan) (y : List Byte) : (unstuffFrom um y).1.length ≤ y.length := by
  induction y generalizing um with
  | nil => simp [unstuffFrom]
  | cons b y ih =>
    have hb := length_unstuffByte_le um b
    have hy := ih (unstuffByte um b).2
    simp only [unstuffFrom, List.length_append, List.length_cons]
    omega

theorem length_unstuff_le (y : List Byte) : (unstuff y).length ≤ y.length := length_unstuffFrom_le .zero y

/-- A byte that is neither mark is passed on and ends a run of FF (R101). -/
theorem stuffByte_of_ne {b : Byte} (h1 : b ≠ mark1) (h2 : b ≠ mark2) (sm : StuffScan) : stuffByte sm b = ([b], .zero) := by
  simp [stuffByte, h1, h2]

/-- Before two bytes FF nothing is inserted (R101). -/
theorem stuffByte_of_ne_two {sm : StuffScan} (h : sm ≠ .two) (b : Byte) :
    stuffByte sm b = ([b], if b = mark1 then sm.bump else .zero) := by
  unfold stuffByte
  rw [if_neg fun hc => h hc.1]
  split <;> rfl

/-- The five header bytes of the region pass through the stuffer unchanged and leave SM = 0 (R123): only the two length bytes can be
a run of FF, and the code after them is neither mark. -/
theorem stuff_header {id code : Byte} (hid : id ≠ mark1) (h1 : code ≠ mark1) (h2 : code ≠ mark2) (lL lH : Byte) (x : List Byte) :
    stuff (reserved :: id :: lL :: lH :: code :: x) = reserved :: id :: lL :: lH :: code :: stuff x := by
  have hr : stuffByte .zero reserved = ([reserved], .zero) := by decide
  have hi : stuffByte .zero id = ([id], .zero) := by simp [stuffByte_of_ne_two, hid]
  have hl : (if lL = mark1 then StuffScan.zero.bump else .zero) ≠ .two := by split <;> decide
  simp only [stuff, stuffFrom, hr, hi, stuffByte_of_ne_two (sm := .zero) (by decide) lL, stuffByte_of_ne_two hl lH,
    stuffByte_of_ne h1 h2, List.singleton_append]

/-- The region of a raw packet: its last five header bytes and the parameters (R100). -/
theorem drop_three_rawPacket (id code : Byte) (len : Word) (params : List Byte) :
    (rawPacket id len code params).drop 3 = reserved :: id :: lo8 len :: hi8 len :: code :: params := rfl

/-- The length of a wire packet without its checksum: 8 + P + K with K of the parameters alone (R123, R124). -/
theorem length_of_finalize_buildRaw {id code : Byte} (hid : id ≠ mark1) (h1 : code ≠ mark1) (h2 : code ≠ mark2)
    {params : List Byte} {w : List Byte × Nat} (h : finalize (buildRaw id code params) = some w) :
    w.1.length = 8 + (stuff params).length := by
  unfold finalize at h
  split at h
  · cases h
  · obtain rfl := Option.some.inj h
    have hs : (stuffRegion (buildRaw id code params)).1 = _ := stuff_header hid h1 h2 _ _ params
    have hr : (buildRaw id code params).length = 8 + params.length := length_rawPacket _ _ _ params
    simp only [length_setLength, List.length_append, List.length_take, hs, hr, List.length_cons]
    omega

end Sys2Proof.Machine
end

section
/-! SUPPORT. What the constraints of R6 give: bounds on the capacities, and codes and identifiers that are no marks. -/

namespace Sys2Proof

theorem Config.bounds_of_wf {c : Config} (h : c.wf = true) : 4 ≤ c.maxParams ∧ c.maxRead ≤ 65524 := by
  simp only [Config.wf, Bool.and_eq_true, decide_eq_true_eq] at h
  omega

theorem Config.code_ne_marks_of_wf {c : Config} (h : c.wf = true) {code : Byte}
    (hcode : code ∈ [c.instrPing, c.instrRead, c.instrWrite]) : code ≠ Machine.mark1 ∧ code ≠ Machine.mark2 := by
  simp only [Config.wf, Bool.and_eq_true, List.all_eq_true, bne_iff_ne] at h
  exact h.2 code hcode

namespace Machine

theorem ne_mark1_of_validId {id : Byte} (h : validId id = true) : id ≠ mark1 := by
  rintro rfl
  exact absurd h (by decide)

/-- EXP_LEN does not wrap (R148): `11 + MAX_READ` is at most 65535. -/
theorem toNat_expectedLen {n : Word} (h : n.toNat ≤ 65524) : (expectedLen n).toNat = 11 + n.toNat := by
  simp only [expectedLen, replyBaseLen, BitVec.toNat_add, BitVec.toNat_ofNat]
  omega

end Machine
end Sys2Proof
end

section
/-! SUPPORT. What the invariant says of the context and its buffers, in the phases of a command. -/

namespace Sys2Proof.Machine

@[simp] theorem State.length_pbufBytes (s : State) (p : Nat) : (s.pbufBytes p).length = p := by simp [State.pbufBytes]

/-- The packet of the operation in the context is a raw packet with P parameters and one of the three codes (R119 to R121, R152). -/
theorem State.contextRaw_eq_buildRaw {s : State} (h : s.paramsFit) :
    ∃ code ∈ [s.cfg.instrPing, s.cfg.instrRead, s.cfg.instrWrite], ∃ params : List Byte,
      s.contextRaw = buildRaw s.ctx.id code params ∧ params.length = s.ctx.p.toNat := by
  unfold State.paramsFit at h
  unfold State.contextRaw
  cases hop : s.ctx.op with
  | none => simp [hop] at h
  | ping =>
    simp only [hop] at h
    exact ⟨_, by simp, [], rfl, by simp [h]⟩
  | read =>
    simp only [hop] at h
    exact ⟨_, by simp, _, rfl, by simp [h, readParams]⟩
  | write => exact ⟨_, by simp, _, rfl, s.length_pbufBytes _⟩

theorem State.p_le_maxParams {s : State} (hc : 4 ≤ s.cfg.maxParams) (h : s.paramsFit) : s.ctx.p.toNat ≤ s.cfg.maxParams := by
  unfold State.paramsFit at h
  cases hop : s.ctx.op with
  | none => simp [hop] at h
  | ping => simp_all
  | read => simp_all
  | write => simpa [hop] using h

/-- In a command the context asks for a packet whose id and code are no marks, within MAX_PARAMS. -/
theorem Inv.contextRaw {s : State} (h : Inv s) (hp : s.phase ≠ .idle) :
    ∃ (code : Byte) (params : List Byte), s.ctx.id ≠ mark1 ∧ code ≠ mark1 ∧ code ≠ mark2 ∧
      s.contextRaw = buildRaw s.ctx.id code params ∧ params.length = s.ctx.p.toNat ∧ s.ctx.p.toNat ≤ s.cfg.maxParams := by
  obtain ⟨⟨hbusy, -⟩, hhandle, ⟨hwf, -⟩, -, hctx, -⟩ := h
  obtain ⟨hv, hid, hfit, -⟩ := hctx (hbusy.mpr hp)
  obtain ⟨code, hcode, params, hraw, hlen⟩ := State.contextRaw_eq_buildRaw hfit
  obtain ⟨h1, h2⟩ := Config.code_ne_marks_of_wf hwf hcode
  exact ⟨code, params, hid ▸ ne_mark1_of_validId (hhandle hv), h1, h2, hraw, hlen,
    State.p_le_maxParams (Config.bounds_of_wf hwf).1 hfit⟩

/-- In a command EXP_LEN is 11 + N, with N within MAX_READ (R148). -/
theorem Inv.expLen {s : State} (h : Inv s) (hp : s.phase ≠ .idle) :
    s.ctx.expLen.toNat = 11 + s.ctx.n.toNat ∧ s.ctx.n.toNat ≤ s.cfg.maxRead := by
  obtain ⟨⟨hbusy, -⟩, -, ⟨hwf, -⟩, -, hctx, -⟩ := h
  obtain ⟨-, -, -, hn, hexp, -⟩ := hctx (hbusy.mpr hp)
  exact ⟨hexp ▸ toNat_expectedLen (hn.trans (Config.bounds_of_wf hwf).2), hn⟩

theorem Inv.rawMade {s : State} (h : Inv s) (hp : s.phase ≠ .idle ∧ s.phase ≠ .build) : s.rawMade := by
  obtain ⟨-, -, -, -, -, hbuf, -⟩ := h
  unfold BufferInv at hbuf
  cases hph : s.phase <;> simp_all

/-- From phase 3 on WIRE is the finalized packet, before or after its two checksum bytes. -/
theorem Inv.wireMade {s : State} (h : Inv s)
    (hp : s.phase = .checksum ∨ s.phase = .transmit ∨ s.phase = .receive ∨ s.phase = .verify ∨ s.phase = .parse) :
    s.wireStuffed ∨ s.wireMade := by
  obtain ⟨-, -, -, -, -, hbuf, -⟩ := h
  unfold BufferInv at hbuf
  rcases hp with hp | hp | hp | hp | hp <;> simp_all

theorem Inv.replyHeld {s : State} (h : Inv s) (hp : s.phase = .verify ∨ s.phase = .parse) : s.replyHeld := by
  obtain ⟨-, -, -, -, -, hbuf, -⟩ := h
  rcases hp with hp | hp <;> simp only [BufferInv, hp] at hbuf
  · obtain ⟨-, -, hheld⟩ := hbuf
    exact hheld
  · obtain ⟨-, -, hheld, -⟩ := hbuf
    exact hheld

theorem Inv.replyVerified {s : State} (h : Inv s) (hp : s.phase = .parse) : s.replyVerified := by
  obtain ⟨-, -, -, -, -, hbuf, -⟩ := h
  simp only [BufferInv, hp] at hbuf
  obtain ⟨-, -, -, hverified⟩ := hbuf
  exact hverified

theorem length_wire_le_of_made {s : State} (h : s.wireStuffed ∨ s.wireMade) :
    ∃ w, finalize s.ctx.raw = some w ∧ s.ctx.wire.length ≤ w.1.length + 2 := by
  rcases h with h | h
  · exact ⟨_, h, Nat.le_add_right _ 2⟩
  · obtain ⟨w, hw, he⟩ := Option.map_eq_some_iff.mp h
    exact ⟨w, hw, by rw [← he, length_crcAppend]⟩

end Sys2Proof.Machine
end

section
/-! SUPPORT. No buffer exceeds its capacity (R7, R48): one lemma for each buffer. -/

namespace Sys2Proof.Machine

variable {s : State}

theorem Inv.length_raw (h : Inv s) (hp : s.phase ≠ .idle ∧ s.phase ≠ .build) :
    s.ctx.raw.length = 8 + s.ctx.p.toNat ∧ s.ctx.raw.length ≤ s.cfg.rawCap := by
  obtain ⟨code, params, -, -, -, hraw, hlen, hmax⟩ := h.contextRaw hp.1
  have hr : s.ctx.raw.length = 8 + s.ctx.p.toNat := by
    rw [show s.ctx.raw = _ from h.rawMade hp, hraw, ← hlen]
    exact length_rawPacket _ _ _ params
  exact ⟨hr, hr ▸ Nat.add_le_add_left hmax 8⟩

/-- The header gains nothing and the parameters at most a third (R106, R123), so WIRE stays below `10 + P + P / 3`. -/
theorem Inv.length_wire (h : Inv s)
    (hp : s.phase = .checksum ∨ s.phase = .transmit ∨ s.phase = .receive ∨ s.phase = .verify ∨ s.phase = .parse) :
    s.ctx.wire.length ≤ 10 + s.cfg.maxParams + s.cfg.maxParams / 3 ∧ s.ctx.wire.length ≤ s.cfg.wireCap := by
  have hp' : s.phase ≠ .idle ∧ s.phase ≠ .build := by rcases hp with hp | hp | hp | hp | hp <;> simp [hp]
  obtain ⟨code, params, hid, h1, h2, hraw, hlen, hmax⟩ := h.contextRaw hp'.1
  obtain ⟨w, hw, hle⟩ := length_wire_le_of_made (h.wireMade hp)
  rw [show s.ctx.raw = _ from h.rawMade hp', hraw] at hw
  have hwl := length_of_finalize_buildRaw hid h1 h2 hw
  have hst := length_stuff_le params
  unfold Config.wireCap
  omega

theorem Inv.length_rxb (h : Inv s) (hp : s.phase = .verify ∨ s.phase = .parse) :
    s.ctx.rxb.length = s.ctx.expLen.toNat ∧ s.ctx.rxb.length ≤ s.cfg.rxCap := by
  obtain ⟨hexp, hn⟩ := h.expLen (by rcases hp with hp | hp <;> simp [hp])
  have hr : s.ctx.rxb.length = s.ctx.expLen.toNat := h.replyHeld hp
  unfold Config.rxCap
  omega

/-- UNS is no longer than the region it is made of, which is RXB without its first three bytes and its last two (R128). -/
theorem Inv.length_uns (h : Inv s) (hp : s.phase = .parse) :
    s.ctx.uns.length ≤ s.ctx.expLen.toNat - 5 ∧ s.ctx.uns.length ≤ s.cfg.unsCap := by
  obtain ⟨hexp, hn⟩ := h.expLen (by simp [hp])
  obtain ⟨hrx, -⟩ := h.length_rxb (.inr hp)
  obtain ⟨-, -, -, huns⟩ := h.replyVerified hp
  have hle := length_unstuff_le (replyRegion s.ctx.rxb)
  rw [← huns, replyRegion, length_between] at hle
  unfold Config.unsCap
  omega

end Sys2Proof.Machine
end

section
/-! SUPPORT. The obligation on the capacities. -/

open Sys2Proof.Machine

/-- Settles O51: one bound for each buffer, each from the invariant's account of what the phases before have made. -/
theorem capacitiesKept : Obligations.CapacitiesKept := by
  unfold Obligations.CapacitiesKept
  exact fun _ h => ⟨h.length_raw, h.length_wire, h.length_rxb, h.length_uns⟩

end

section
/-! SUPPORT. Everything one step can do, as a relation with one constructor for each effect: the claims about all steps are case
analyses over it. Every constructor states the next state as an update, so what it leaves alone holds by `rfl`. -/

namespace Sys2Proof.Machine

/-- The causes with which a command can end out of each phase (R179, R204). -/
def Phase.failures : Phase → List Cause
  | .idle => []
  | .build => []
  | .stuff => [.rejLenOverflow]
  | .checksum => []
  | .transmit => [.txFail]
  | .receive => [.rxFail]
  | .verify => [.badMarker, .badLength, .badCrc]
  | .parse => [.shortPayload, .badInstr]

/-- `Effect u m t`: move `m` can take the engine from `u` to `t`. -/
inductive Effect (u : State) : Move → State → Prop
  /-- no step is enabled, or nothing awaits the answer (R140, R191) -/
  | waits {m : Move} : u.phase = .idle ∨ u.awaited m = false → Effect u m u
  /-- a host read (R26) -/
  | reads {n : Nat} : Effect u (.hostRead n) (u.hostRead n)
  /-- a host write while BUSY = 1 (R17) -/
  | hostErr {n : Nat} {v : Word} : u.busy = true → Effect u (.hostWrite n v) u.hostError
  /-- a host write to another number than CMD (R18 to R20, R27) -/
  | writes {n : Nat} {v txto rxto argAddr argCount argPlen : Word} {argId : Byte} {pbuf : Memory} :
    u.busy = false → n ≠ 0 → (Memory.wf u.cfg.maxParams u.pbuf → Memory.wf u.cfg.maxParams pbuf) →
    Effect u (.hostWrite n v) { u with
      txto := txto, rxto := rxto, argId := argId, argAddr := argAddr, argCount := argCount, argPlen := argPlen, pbuf := pbuf }
  /-- a command refused at accept (R145 to R147) -/
  | refuses {v : Word} {c : Cause} : u.busy = false → c.status = .rejected → Effect u (.hostWrite 0 v) (u.accept.raise c)
  /-- INIT of an unbound engine (R145) -/
  | binds {v : Word} : u.busy = false → u.hvalid = false → lo8 v = 0x00#8 → u.argId ≠ 253#8 → u.argId ≠ 255#8 →
    Effect u (.hostWrite 0 v) (State.completeOk { u.accept with devId := u.argId, hvalid := true })
  /-- PING, READ or WRITE accepted (R148) -/
  | starts {v : Word} {op : Op} {p addr n : Word} : u.busy = false → u.hvalid = true →
    (u.cfg.wf = true → (u.accept.start op p addr n).paramsFit ∧ n.toNat ≤ u.cfg.maxRead) →
    Effect u (.hostWrite 0 v) (u.accept.start op p addr n)
  /-- phase 1 (R152) -/
  | builds : u.busy = true → u.ctx.xpend = false → u.phase = .build → Effect u .engine (u.built u.builtPacket)
  /-- phase 2, when the length fits (R155) -/
  | stuffs {wire : List Byte} {k : Nat} : u.busy = true → u.ctx.xpend = false → u.phase = .stuff →
    finalize u.ctx.raw = some (wire, k) →
    Effect u .engine { u with
      ctx := { u.ctx with wire := wire, k := BitVec.ofNat 16 k, sm := (stuffRegion u.ctx.raw).2 }
      phase := .checksum }
  /-- phase 3 (R156, R157) -/
  | appends : u.busy = true → u.ctx.xpend = false → u.phase = .checksum → Effect u .engine u.checksumStep
  /-- phase 4, the request (R158) -/
  | transmits : u.busy = true → u.ctx.xpend = false → u.phase = .transmit → Effect u .engine u.transmitStep
  /-- phase 4, the broadcast ending (R166) -/
  | broadcasts {ts : Byte} : u.ctx.xpend = true → u.phase = .transmit → u.ctx.id = idBroadcast →
    Effect u (.txAnswer ts) u.completeOk
  /-- phase 4, success (R160) -/
  | transmitted {ts : Byte} : u.ctx.xpend = true → u.phase = .transmit → u.ctx.id ≠ idBroadcast →
    Effect u (.txAnswer ts) { u with ctx := { u.ctx with xpend := false }, phase := .receive }
  /-- phase 5, the request (R162) -/
  | receives : u.busy = true → u.ctx.xpend = false → u.phase = .receive → Effect u .engine u.receiveStep
  /-- phase 5, success (R164) -/
  | received {ts : Byte} {data : List Byte} : u.ctx.xpend = true → u.phase = .receive → data.length = u.ctx.expLen.toNat →
    Effect u (.rxAnswer ts data) { u with ctx := { u.ctx with rxb := data, xpend := false }, phase := .verify }
  /-- phase 6, when the reply passes (R170) -/
  | verifies : u.busy = true → u.ctx.xpend = false → u.phase = .verify →
    checkMarker u.ctx.rxb = true → checkLength u.ctx.rxb = true → crcVerify u.cfg u.ctx.rxb = true →
    Effect u .engine { u with
      ctx := { u.ctx with
        crc := packetCrc u.cfg u.ctx.rxb (u.ctx.rxb.length - 2)
        uns := unstuff (replyRegion u.ctx.rxb)
        um := (unstuffFrom .zero (replyRegion u.ctx.rxb)).2 }
      phase := .parse }
  /-- phase 7, when the reply passes (R175) -/
  | parses : u.busy = true → u.ctx.xpend = false → u.phase = .parse → checkFull u.ctx.uns u.ctx.expLen.toNat = true →
    Effect u .engine (u.withReply (extract u.ctx.uns u.ctx.n.toNat)).completeOk
  /-- a command ends with a failure; RES_TSTAT is the transport's byte or stays (R186, R204) -/
  | fails {m : Move} {c : Cause} {ts : Byte} {ctx : Ctx} : c ∈ u.phase.failures →
    (if c.status = .transport then ts ≠ 0#8 else ts = u.resTstat) →
    Effect u m (State.raise { u with resTstat := ts, ctx := ctx } c)
  /-- reset (R210) -/
  | resets : Effect u .reset u.platformReset

variable {s t u : State} {m : Move}

theorem step_of_nextMove (hm : s.nextMove = (m, u)) : step s = u.takeMove m := by rw [step_eq_takeMove, hm]

theorem State.script_of_nextMove (hm : s.nextMove = (m, u)) : ∃ l, u = { s with script := l } := by
  simpa [hm] using s.nextMove_state

/-- N of a PING is within MAX_READ (R6, R148). -/
theorem toNat_extraBytes_ping_le {c : Config} (h : c.wf = true) : (extraBytes c .ping 0#16).toNat ≤ c.maxRead := by
  simp only [Config.wf, Bool.and_eq_true, decide_eq_true_eq] at h
  simp only [extraBytes, BitVec.toNat_ofNat]
  omega

/-- What a host write to CMD while BUSY = 0 can do, opcode by opcode (R74, R144 to R148). -/
theorem State.writeCmd_cases {v : Word} (hb : s.busy = false) (h : s.writeCmd v = .next t) :
    (lo8 v = 0x00#8 ∧ t = s.accept.bindHandle) ∨ t = s.accept.acceptPing ∨ t = s.accept.acceptRead ∨
    t = s.accept.acceptWrite ∨ t = s.accept.raise .rejBadOpcode := by
  simp only [State.writeCmd, decode_command] at h
  split at h
  · next hd =>
    (repeat' split at hd) <;> simp only [reduceCtorEq, Except.ok.injEq, Prod.mk.injEq] at hd <;>
      obtain ⟨rfl, -⟩ := hd <;>
      simp only [exec, execInit, execPing, execRead, execWrite, State.onCommand_idle hb, Host.Outcome.next.injEq] at h <;>
      simp [*]
  · simp only [Host.Outcome.next.injEq] at h
    simp [h]

theorem Effect.of_bindHandle {v : Word} (hb : s.busy = false) (hv : lo8 v = 0x00#8) :
    Effect s (.hostWrite 0 v) s.accept.bindHandle := by
  rcases s.accept.bindHandle_cases with ⟨-, h⟩ | ⟨-, -, h⟩ | ⟨hh, h253, h255, h⟩ <;> rw [h]
  · exact .refuses hb rfl
  · exact .refuses hb rfl
  · exact .binds hb hh hv h253 h255

theorem Effect.of_acceptPing {v : Word} (hb : s.busy = false) : Effect s (.hostWrite 0 v) s.accept.acceptPing := by
  rcases s.accept.acceptPing_cases with ⟨-, h⟩ | ⟨hh, h⟩ <;> rw [h]
  · exact .refuses hb rfl
  · exact .starts hb hh fun hwf => ⟨rfl, toNat_extraBytes_ping_le hwf⟩

theorem Effect.of_acceptRead {v : Word} (hb : s.busy = false) : Effect s (.hostWrite 0 v) s.accept.acceptRead := by
  rcases s.accept.acceptRead_cases with ⟨-, h⟩ | ⟨-, -, h⟩ | ⟨hh, hn, h⟩ <;> rw [h]
  · exact .refuses hb rfl
  · exact .refuses hb rfl
  · exact .starts hb hh fun _ => ⟨rfl, hn⟩

theorem Effect.of_acceptWrite {v : Word} (hb : s.busy = false) : Effect s (.hostWrite 0 v) s.accept.acceptWrite := by
  rcases s.accept.acceptWrite_cases with ⟨-, h⟩ | ⟨-, -, h⟩ | ⟨hh, hp, h⟩ <;> rw [h]
  · exact .refuses hb rfl
  · exact .refuses hb rfl
  · exact .starts hb hh fun _ => ⟨hp, Nat.zero_le _⟩

theorem Effect.of_writeReg {n : Nat} {v : Word} (hb : s.busy = false) (hn : n ≠ 0) :
    Effect s (.hostWrite n v) (s.writeReg n v) := by
  rcases s.writeReg_cases n v with h | h | h | h | h | h | ⟨i, hi, h⟩ | h <;> rw [h]
  case inr.inr.inr.inr.inr.inr.inl => exact .writes hb hn (Memory.write_wf _ i _ _ hi)
  all_goals exact .writes hb hn id

theorem Effect.of_hostWrite {n : Nat} {v : Word} (h : s.hostWrite n v = .next t) : Effect s (.hostWrite n v) t := by
  unfold State.hostWrite at h
  split at h
  · next hb => obtain rfl := Host.Outcome.next.inj h; exact .hostErr hb
  · next hb =>
    rw [Bool.not_eq_true] at hb
    split at h
    · next hn =>
      subst hn
      rcases State.writeCmd_cases hb h with ⟨hv, rfl⟩ | rfl | rfl | rfl | rfl
      · exact .of_bindHandle hb hv
      · exact .of_acceptPing hb
      · exact .of_acceptRead hb
      · exact .of_acceptWrite hb
      · exact .refuses hb rfl
    · next hn => obtain rfl := Host.Outcome.next.inj h; exact .of_writeReg hb hn

theorem Effect.of_stuffStep (hb : s.busy = true) (hx : s.ctx.xpend = false) (hp : s.phase = .stuff) :
    Effect s .engine s.stuffStep := by
  rcases s.stuffStep_cases with ⟨-, h⟩ | ⟨wire, k, hf, h⟩ <;> rw [h]
  · exact .fails (ts := s.resTstat) (by simp [hp, Phase.failures]) rfl
  · exact .stuffs hb hx hp hf

theorem Effect.of_verifyStep (hb : s.busy = true) (hx : s.ctx.xpend = false) (hp : s.phase = .verify) :
    Effect s .engine (s.verifyStep s.ctx.rxb) := by
  rcases s.verifyStep_cases s.ctx.rxb with ⟨-, h⟩ | ⟨-, -, h⟩ | ⟨-, -, -, h⟩ | ⟨hmark, hlen, hcrc, h⟩ <;> rw [h]
  · exact .fails (ts := s.resTstat) (ctx := s.ctx) (by simp [hp, Phase.failures]) rfl
  · exact .fails (ts := s.resTstat) (ctx := s.ctx) (by simp [hp, Phase.failures]) rfl
  · exact .fails (ts := s.resTstat) (by simp [hp, Phase.failures]) rfl
  · exact .verifies hb hx hp hmark hlen hcrc

theorem Effect.of_parseStep (hb : s.busy = true) (hx : s.ctx.xpend = false) (hp : s.phase = .parse) :
    Effect s .engine s.parseStep := by
  rcases s.parseStep_cases with ⟨-, h⟩ | ⟨-, -, h⟩ | ⟨hfull, -, h⟩ <;> rw [h]
  · exact .fails (ts := s.resTstat) (ctx := s.ctx) (by simp [hp, Phase.failures]) rfl
  · exact .fails (ts := s.resTstat) (ctx := s.ctx) (by simp [hp, Phase.failures]) rfl
  · exact .parses hb hx hp hfull

theorem Effect.of_engineTurn (h : s.engineTurn = .next t) : Effect s .engine t := by
  rcases State.engineTurn_cases h with ⟨hw, rfl⟩ | ⟨he, h⟩
  · exact .waits hw.symm
  · obtain ⟨hb, hx⟩ := s.engineEnabled_iff.mp he
    rcases h with ⟨hp, -, rfl⟩ | ⟨hp, rfl⟩ | ⟨hp, rfl⟩ | ⟨hp, rfl⟩ | ⟨hp, rfl⟩ | ⟨hp, rfl⟩ | ⟨hp, rfl⟩
    · exact .builds hb hx hp
    · exact .of_stuffStep hb hx hp
    · exact .appends hb hx hp
    · exact .transmits hb hx hp
    · exact .receives hb hx hp
    · exact .of_verifyStep hb hx hp
    · exact .of_parseStep hb hx hp

theorem Effect.of_txAnswer {ts : Byte} (h : s.txAnswer ts = .next t) : Effect s (.txAnswer ts) t := by
  rcases State.txAnswer_cases h with ⟨hw, rfl⟩ | ⟨ha, h⟩
  · exact .waits (.inr hw)
  · obtain ⟨hx, hp⟩ := (s.awaits_iff _).mp ha
    rcases h with ⟨-, hid, rfl⟩ | ⟨-, hid, rfl⟩ | ⟨hts, rfl⟩
    · exact .broadcasts hx hp hid
    · exact .transmitted hx hp hid
    · exact .fails (ctx := s.ctx) (by simp [hp, Phase.failures]) hts

theorem Effect.of_rxAnswer {ts : Byte} {data : List Byte} (h : s.rxAnswer ts data = .next t) :
    Effect s (.rxAnswer ts data) t := by
  rcases State.rxAnswer_cases h with ⟨hw, rfl⟩ | ⟨ha, h⟩
  · exact .waits (.inr (by simp [State.awaited, hw]))
  · obtain ⟨hx, hp⟩ := (s.awaits_iff _).mp ha
    rcases h with ⟨-, hlen, rfl⟩ | ⟨hts, rfl⟩
    · exact .received hx hp hlen
    · exact .fails (by simp [hp, Phase.failures]) hts

/-- A step has one of the effects, from the state as its move finds it. -/
theorem effect_of_step (hm : s.nextMove = (m, u)) (h : step s = .next t) : Effect u m t := by
  rw [step_of_nextMove hm] at h
  rcases State.takeMove_cases h with ⟨rfl, h⟩ | ⟨n, v, rfl, h⟩ | ⟨n, rfl, rfl⟩ | ⟨ts, rfl, h⟩ | ⟨ts, data, rfl, h⟩ | ⟨rfl, rfl⟩
  · exact .of_engineTurn h
  · exact .of_hostWrite h
  · exact .reads
  · exact .of_txAnswer h
  · exact .of_rxAnswer h
  · exact .resets

end Sys2Proof.Machine
end

section
/-! SUPPORT. The invariant, part by part: how each part stands after each effect. -/

namespace Sys2Proof.Machine

variable {s t u : State} {m : Move}

theorem maxParams_le_of_wf {c : Config} (h : c.wf = true) : c.maxParams ≤ 65532 := by
  simp only [Config.wf, Bool.and_eq_true, decide_eq_true_eq] at h
  omega

theorem validId_of_ne {id : Byte} (h253 : id ≠ 253#8) (h255 : id ≠ 255#8) : validId id = true := by
  simp only [validId, idBroadcast, Bool.or_eq_true, decide_eq_true_eq, ← BitVec.toNat_inj, BitVec.toNat_ofNat, ne_eq]
    at h253 h255 ⊢
  omega

/-- A failure out of phase `p` is a row of R179 that ends the command. -/
theorem Phase.phaseRow_of_failures {p : Phase} {c : Cause} (h : c ∈ p.failures) : phaseRow p .idle c.status := by
  cases p <;> simp only [Phase.failures, List.not_mem_nil, List.mem_cons, or_false] at h
  case verify => rcases h with rfl | rfl | rfl <;> simp [phaseRow, Cause.status]
  case parse => rcases h with rfl | rfl <;> simp [phaseRow, Cause.status]
  all_goals subst h; simp [phaseRow, Cause.status]

theorem Phase.ne_idle_of_failures {p : Phase} {c : Cause} (h : c ∈ p.failures) : p ≠ .idle := by
  rintro rfl
  simp [Phase.failures] at h

theorem SequencerInv.phase_idle (h : SequencerInv s) (hb : s.busy = false) : s.phase = .idle := by
  by_contra hp
  simp [h.1.mpr hp] at hb

theorem SequencerInv.busy (h : SequencerInv s) (hp : s.phase ≠ .idle) : s.busy = true := h.1.mpr hp

/-- Between two commands the sequencer part holds whatever the other registers are. -/
theorem SequencerInv.of_idle (hb : s.busy = false) (hp : s.phase = .idle) (hx : s.ctx.xpend = false) : SequencerInv s := by
  simp [SequencerInv, hb, hp, hx]

theorem SequencerInv.of_busy (hb : s.busy = true) (hp : s.phase ≠ .idle) (hx : s.ctx.xpend = false) : SequencerInv s := by
  simp [SequencerInv, hb, hp, hx]

theorem Effect.sequencerInv (h : Effect u m t) (hs : SequencerInv u) : SequencerInv t := by
  cases h with
  | waits | reads | hostErr | writes => exact hs
  | refuses | binds | broadcasts | parses | fails | resets => exact .of_idle rfl rfl rfl
  | starts => exact .of_busy rfl nofun rfl
  | builds hb hx | stuffs hb hx | appends hb hx | verifies hb hx => exact .of_busy hb nofun hx
  | transmits hb _ hp => simp [SequencerInv, State.transmitStep, hb, hp]
  | receives hb _ hp => simp [SequencerInv, State.receiveStep, hb, hp]
  | transmitted _ hp | received _ hp => exact .of_busy (hs.busy (by simp [hp])) nofun rfl

theorem Effect.handleInv (h : Effect u m t) (hs : HandleInv u) : HandleInv t := by
  cases h with
  | binds _ _ _ h253 h255 => exact fun _ => validId_of_ne h253 h255
  | resets => exact nofun
  | _ => exact hs

/-- A payload that fits leaves RBUF within its capacity (R48, R175). -/
theorem State.length_rbuf_withReply_le (hn : s.ctx.n.toNat ≤ s.cfg.maxRead) (hr : s.rbuf.length ≤ s.cfg.maxRead)
    (uns : List Byte) : (s.withReply (extract uns s.ctx.n.toNat)).rbuf.length ≤ s.cfg.maxRead := by
  simp only [State.withReply_rbuf, extract, List.length_append, length_between, List.length_drop]
  omega

theorem Effect.storeInv (h : Effect u m t) (hc : ContextInv u) (hs : StoreInv u) : StoreInv t := by
  obtain ⟨hwf, hpbuf, hrbuf⟩ := hs
  cases h with
  | writes _ _ hkeep => exact ⟨hwf, hkeep hpbuf, hrbuf⟩
  | parses hb =>
    obtain ⟨-, -, -, hn, -⟩ := hc hb
    exact ⟨hwf, hpbuf, State.length_rbuf_withReply_le hn hrbuf _⟩
  | resets => exact ⟨hwf, Memory.nil_wf _, Nat.zero_le _⟩
  | _ => exact ⟨hwf, hpbuf, hrbuf⟩

/-- While BUSY = 1 status, cause, transport byte and RES_VALID are clear (R26). -/
theorem ResultInv.clear (h : ResultInv s) (hb : s.busy = true) :
    s.resStatus = .ok ∧ s.resCause = .none ∧ s.resTstat = 0#8 ∧ s.resValid = false := by
  obtain ⟨hst, hts, -, hclear⟩ := h
  obtain ⟨hcause, hvalid⟩ := hclear hb
  simp_all [Cause.status]

theorem ResultInv.of_clear (hst : s.resStatus = .ok) (hc : s.resCause = .none) (ht : s.resTstat = 0#8)
    (hv : s.resValid = false) : ResultInv s := by
  simp [ResultInv, hst, hc, ht, hv, Cause.status]

/-- After an ending that is no success the results are those of its cause (R181, R204). -/
theorem ResultInv.of_raise {c : Cause} (hts : s.resTstat ≠ 0#8 ↔ c.status = .transport) : ResultInv (s.raise c) :=
  ⟨rfl, hts, nofun, nofun⟩

/-- The whole payload is in RBUF when unstuffing removed nothing (R128, R175). -/
theorem State.resPlen_withReply_le (hexp : s.ctx.expLen.toNat = 11 + s.ctx.n.toNat)
    (hfull : checkFull s.ctx.uns s.ctx.expLen.toNat = true) :
    s.ctx.n.toNat ≤ (s.withReply (extract s.ctx.uns s.ctx.n.toNat)).rbuf.length := by
  simp only [checkFull, decide_eq_true_eq] at hfull
  simp only [State.withReply_rbuf, extract, List.length_append, length_between]
  omega

theorem Effect.resultInv (h : Effect u m t) (hi : Inv u) : ResultInv t := by
  obtain ⟨hseq, -, -, hs, -⟩ := id hi
  cases h with
  | refuses _ hc => exact .of_raise (by simp [hc])
  | binds | starts | resets => exact .of_clear rfl rfl rfl rfl
  | broadcasts _ hp =>
    obtain ⟨-, -, ht, hv⟩ := hs.clear (hseq.busy (by simp [hp]))
    exact .of_clear rfl rfl ht hv
  | parses hb _ hp hfull =>
    obtain ⟨-, -, ht, -⟩ := hs.clear hb
    obtain ⟨hexp, -⟩ := hi.expLen (by simp [hp])
    exact ⟨rfl, by simp [ht], fun _ => ⟨rfl, State.resPlen_withReply_le hexp hfull⟩, nofun⟩
  | fails hc hts =>
    obtain ⟨-, -, ht, -⟩ := hs.clear (hseq.busy (Phase.ne_idle_of_failures hc))
    refine .of_raise ?_
    split at hts <;> simp_all
  | _ => exact hs

theorem Effect.contextInv (h : Effect u m t) (hseq : SequencerInv u) (hstore : StoreInv u) (hs : ContextInv u) :
    ContextInv t := by
  cases h with
  | waits | reads | hostErr => exact hs
  | writes hb => intro hb'; simp [hb] at hb'
  | refuses | binds | broadcasts | parses | fails | resets => exact nofun
  | starts _ hv hfits =>
    obtain ⟨hfit, hn⟩ := hfits hstore.1
    exact fun _ => ⟨hv, rfl, hfit, hn, rfl, by simp⟩
  | builds hb | stuffs hb | appends hb =>
    obtain ⟨hv, hid, hfit, hn, hexp, -⟩ := hs hb
    exact fun _ => ⟨hv, hid, hfit, hn, hexp, by simp⟩
  | transmits | receives => exact hs
  | transmitted _ hp hbc =>
    obtain ⟨hv, hid, hfit, hn, hexp, -⟩ := hs (hseq.busy (by simp [hp]))
    exact fun _ => ⟨hv, hid, hfit, hn, hexp, fun _ => hbc⟩
  | received _ hp =>
    obtain ⟨hv, hid, hfit, hn, hexp, hbc⟩ := hs (hseq.busy (by simp [hp]))
    exact fun _ => ⟨hv, hid, hfit, hn, hexp, fun _ => hbc (.inl hp)⟩
  | verifies hb _ hp =>
    obtain ⟨hv, hid, hfit, hn, hexp, hbc⟩ := hs hb
    exact fun _ => ⟨hv, hid, hfit, hn, hexp, fun _ => hbc (.inr (.inl hp))⟩

/-- The length field `P + 3` of BUILD is that of the packet of the operation (R115, R152). -/
theorem State.builtPacket_eq_contextRaw (hc : s.cfg.maxParams ≤ 65532) (hfit : s.paramsFit) :
    s.builtPacket = s.contextRaw := by
  unfold State.paramsFit at hfit
  unfold State.builtPacket State.contextRaw
  cases hop : s.ctx.op with
  | none => rfl
  | ping => rfl
  | read =>
    simp only [hop] at hfit
    simp [buildRead, buildRaw, State.readOperands, readParams, lenPre, hfit]
  | write =>
    simp only [hop] at hfit
    have hlen : (s.ctx.p + 3#16).toNat = s.ctx.p.toNat + 3 := by
      simp only [BitVec.toNat_add, BitVec.toNat_ofNat]
      omega
    have hword : s.ctx.p + 3#16 = BitVec.ofNat 16 (s.ctx.p.toNat + 3) := by
      rw [← hlen, BitVec.ofNat_toNat, BitVec.setWidth_eq]
    simp only [buildWrite, buildRaw, State.writeOperands, lenPre, State.length_pbufBytes, hlen, ← hword, Nat.add_sub_cancel]

/-- K fits its register (R116): a packet that is finalized is at most 65535 bytes long. -/
theorem count_lt_of_finalize {raw : List Byte} {w : List Byte × Nat} (h : finalize raw = some w) : w.2 < 65536 := by
  unfold finalize at h
  split at h
  · cases h
  · next hlen =>
    obtain rfl := Option.some.inj h
    simp only [wireLen, lenPost] at hlen
    show insertedCount raw < 65536
    omega

theorem Effect.bufferInv (h : Effect u m t) (hi : Inv u) : BufferInv t := by
  obtain ⟨hseq, -, ⟨hwf, -⟩, -, hctx, hs, -⟩ := hi
  cases h with
  | waits | reads | hostErr => exact hs
  | writes hb => simp [BufferInv, hseq.phase_idle hb]
  | refuses | binds | starts | broadcasts | parses | fails | resets => trivial
  | builds hb =>
    obtain ⟨-, -, hfit, -⟩ := hctx hb
    exact State.builtPacket_eq_contextRaw (maxParams_le_of_wf hwf) hfit
  | stuffs _ _ hp hf =>
    simp only [BufferInv, hp] at hs
    refine ⟨hs, ?_⟩
    simp [State.wireStuffed, hf, Nat.mod_eq_of_lt (count_lt_of_finalize hf)]
  | appends _ _ hp =>
    simp only [BufferInv, hp] at hs
    obtain ⟨hraw, hwire⟩ := hs
    refine ⟨hraw, ?_⟩
    simp [State.wireMade, show finalize u.ctx.raw = _ from hwire]
  | transmits _ _ hp | receives _ _ hp =>
    simp only [BufferInv, State.transmitStep, State.receiveStep, State.issue_phase, hp] at hs ⊢
    exact hs
  | transmitted _ hp =>
    simp only [BufferInv, hp] at hs
    exact hs
  | received _ hp hlen =>
    simp only [BufferInv, hp] at hs
    obtain ⟨hraw, hwire⟩ := hs
    exact ⟨hraw, hwire, hlen⟩
  | verifies _ _ hp hmark hlen hcrc =>
    simp only [BufferInv, hp] at hs
    obtain ⟨hraw, hwire, hheld⟩ := hs
    exact ⟨hraw, hwire, hheld, hmark, hlen, hcrc, rfl⟩

/-- In every phase the requests are one transmit and then at most one receive (R176). -/
theorem PortInv.oneExchange (h : PortInv s) : oneExchange s.issued := by
  cases hp : s.phase <;> simp only [PortInv, hp] at h
  case idle => exact h
  case transmit | receive => split at h <;> rw [h] <;> trivial
  all_goals rw [h]; trivial

/-- Before phase 4 makes its request the command has made none (R158). -/
theorem PortInv.issued_transmit (h : PortInv s) (hp : s.phase = .transmit) (hx : s.ctx.xpend = false) : s.issued = [] := by
  simpa [PortInv, hp, hx] using h

/-- Before phase 5 makes its request the command has made the transmit request alone (R162). -/
theorem PortInv.issued_receive (h : PortInv s) (hp : s.phase = .receive) (hx : s.ctx.xpend = false) :
    s.issued = [s.txRequest] := by
  simpa [PortInv, hp, hx] using h

theorem Effect.portInv (h : Effect u m t) (hseq : SequencerInv u) (hs : PortInv u) : PortInv t := by
  cases h with
  | waits | reads | hostErr => exact hs
  | writes hb =>
    have hp := hseq.phase_idle hb
    simp only [PortInv, hp] at hs ⊢
    exact hs
  | refuses | binds | resets => trivial
  | starts => rfl
  | broadcasts | parses | fails => exact hs.oneExchange
  | builds _ _ hp | stuffs _ _ hp =>
    simp only [PortInv, hp] at hs
    exact hs
  | appends _ hx hp =>
    simp only [PortInv, hp] at hs
    simp [PortInv, hs, hx]
  | transmits _ hx hp =>
    simp [PortInv, State.transmitStep, hp, hs.issued_transmit hp hx, State.txRequest]
  | receives _ hx hp =>
    simp [PortInv, State.receiveStep, hp, hs.issued_receive hp hx, State.txRequest, State.rxRequest]
  | transmitted hx hp | received hx hp =>
    simp only [PortInv, hp, hx, if_true] at hs
    exact hs
  | verifies _ _ hp =>
    simp only [PortInv, hp] at hs
    exact hs

/-- The invariant says nothing of the moves to come. -/
theorem Inv.of_nextMove (hm : s.nextMove = (m, u)) (h : Inv s) : Inv u := by
  obtain ⟨l, rfl⟩ := State.script_of_nextMove hm
  exact h

/-- The state reset leaves meets every part of the invariant (R13, R31). -/
theorem inv_afterReset {c : Config} (h : c.wf = true) (era : Nat) (script : List Move) : Inv (State.afterReset c era script) :=
  ⟨.of_idle rfl rfl rfl, nofun, ⟨h, Memory.nil_wf _, Nat.zero_le _⟩, .of_clear rfl rfl rfl rfl, nofun, trivial, trivial⟩

theorem Effect.inv (h : Effect u m t) (hi : Inv u) : Inv t := by
  obtain ⟨hseq, hhandle, hstore, -, hctx, -, hport⟩ := id hi
  exact ⟨h.sequencerInv hseq, h.handleInv hhandle, h.storeInv hctx hstore, h.resultInv hi,
    h.contextInv hseq hstore hctx, h.bufferInv hi, h.portInv hseq hport⟩

end Sys2Proof.Machine
end

section
/-! SUPPORT. The obligations on the invariant. -/

open Sys2Proof.Machine

/-- Settles O48: each part of the invariant stands after each effect a step can have. -/
theorem stepKeepsInv : Obligations.StepKeepsInv := by
  unfold Obligations.StepKeepsInv
  intro s t hi h
  exact (effect_of_step rfl h).inv (hi.of_nextMove rfl)

/-- Settles O47: the state reset leaves, for the default parameters and for any that obey R6. -/
theorem resetMeetsInv : Obligations.ResetMeetsInv := by
  unfold Obligations.ResetMeetsInv
  exact ⟨inv_afterReset (by decide +kernel) _ _, fun _ era script h => inv_afterReset h era script⟩

end

section
/-! SUPPORT. Which moves give a next state, and where an effect can touch PHASE, the requests and the registers of the host. -/

namespace Sys2Proof.Machine

variable {s t u : State} {m : Move}

/-- A step has one of the effects, from its own state but for the script. -/
theorem exists_effect_of_step (h : step s = .next t) : ∃ l, Effect { s with script := l } s.nextMove.1 t := by
  obtain ⟨l, hl⟩ := s.nextMove_state
  exact ⟨l, hl ▸ effect_of_step (m := s.nextMove.1) (u := s.nextMove.2) rfl h⟩

/-- No instruction stops. -/
theorem exec_goesOn (i : Instr) (s : State) : ∃ t, exec i s = .next t := by
  cases i with
  | statusPkt id len =>
    simp only [exec, execStatusPkt]
    split <;> exact ⟨_, rfl⟩
  | _ => exact ⟨_, rfl⟩

theorem State.hostWrite_goesOn (s : State) (n : Nat) (v : Word) : ∃ t, s.hostWrite n v = .next t := by
  unfold State.hostWrite
  split
  · exact ⟨_, rfl⟩
  · split
    · unfold State.writeCmd
      rcases decode s.cfg .command [lo8 v] with e | ⟨i, rest⟩
      · exact ⟨_, rfl⟩
      · exact exec_goesOn i s
    · exact ⟨_, rfl⟩

/-- The engine's turn stops only in phase 1 of no operation (log 15). -/
theorem State.engineTurn_goesOn (h : s.phase = .build → s.ctx.op ≠ .none) : ∃ t, s.engineTurn = .next t := by
  unfold State.engineTurn
  split
  · split
    · exact exec_goesOn _ s
    · next hi =>
      cases hp : s.phase with
      | build =>
        have hop := h hp
        cases ho : s.ctx.op <;> simp_all [State.engineInstr, State.contextInstr]
      | _ => simp [State.bareStep, hp]
  · exact ⟨_, rfl⟩

theorem State.op_ne_none_of_paramsFit (h : s.paramsFit) : s.ctx.op ≠ .none := by
  intro ho
  simp [State.paramsFit, ho] at h

theorem State.txAnswer_goesOn (s : State) (ts : Byte) : ∃ t, s.txAnswer ts = .next t := by
  unfold State.txAnswer
  split
  · split <;> exact ⟨_, rfl⟩
  · exact ⟨_, rfl⟩

/-- A receive answer within the transport's contract (R142). -/
theorem State.rxAnswer_goesOn {ts : Byte} {data : List Byte}
    (h : s.awaits .receive = true → ts = 0#8 → data.length = s.ctx.expLen.toNat) : ∃ t, s.rxAnswer ts data = .next t := by
  unfold State.rxAnswer
  split
  · next ha =>
    split
    · next hts => exact ⟨_, if_pos (h ha hts)⟩
    · exact ⟨_, rfl⟩
  · exact ⟨_, rfl⟩

/-- Of the moves of an orderly host and transport every one gives a next state (R142, R217). -/
theorem State.takeMove_goesOn (hi : Inv u) (ho : u.orderly m = true) : ∃ t, u.takeMove m = .next t := by
  cases m with
  | engine =>
    obtain ⟨⟨hbusy, -⟩, -, -, -, hctx, -⟩ := hi
    refine State.engineTurn_goesOn fun hp => ?_
    obtain ⟨-, -, hfit, -⟩ := hctx (hbusy.mpr (by simp [hp]))
    exact State.op_ne_none_of_paramsFit hfit
  | hostWrite n v => exact u.hostWrite_goesOn n v
  | hostRead n => exact ⟨_, rfl⟩
  | txAnswer ts => exact u.txAnswer_goesOn ts
  | rxAnswer ts data =>
    refine State.rxAnswer_goesOn fun ha hts => ?_
    simpa [State.orderly, ha, hts] using ho
  | reset => exact ⟨_, rfl⟩

/-- HOSTERR is sticky (R17). -/
theorem Effect.hosterr_kept (h : Effect u m t) (hr : m ≠ .reset) (hs : u.hosterr = true) : t.hosterr = true := by
  cases h with
  | hostErr => rfl
  | resets => exact absurd rfl hr
  | _ => exact hs

/-- Only a host write while BUSY = 1 raises HOSTERR (R17). -/
theorem Effect.hosterr_raised (h : Effect u m t) (ht : t.hosterr = true) :
    u.hosterr = true ∨ (u.busy = true ∧ ∃ n v, m = .hostWrite n v) := by
  cases h with
  | hostErr hb => exact .inr ⟨hb, _, _, rfl⟩
  | resets => cases ht
  | _ => exact .inl ht

/-- Nothing but INIT of an unbound engine changes the handle (R16, R57). -/
theorem Effect.handle (h : Effect u m t) (hr : m ≠ .reset) :
    (u.hvalid = true → t.hvalid = true ∧ t.devId = u.devId) ∧
    (u.hvalid = false → t.hvalid = true ∨ t.devId ≠ u.devId →
      t.hvalid = true ∧ t.devId = u.argId ∧ u.busy = false ∧ ∃ v, m = .hostWrite 0x00 v ∧ lo8 v = 0x00) := by
  cases h with
  | binds hb hv hlo => exact ⟨fun h1 => absurd (hv.symm.trans h1) Bool.false_ne_true, fun _ _ => ⟨rfl, rfl, hb, _, rfl, hlo⟩⟩
  | resets => exact absurd rfl hr
  | _ => exact ⟨fun h1 => ⟨h1, rfl⟩, fun h0 h1 => h1.elim (fun h1 => absurd (h0.symm.trans h1) Bool.false_ne_true) (absurd rfl)⟩

/-- Only a host write to another number than CMD changes the timeouts, the operands or PBUF (R18 to R20). -/
theorem Effect.operands (h : Effect u m t) (hr : m ≠ .reset) (hw : ∀ n v, m = .hostWrite n v → n = 0x00) :
    t.txto = u.txto ∧ t.rxto = u.rxto ∧ t.argId = u.argId ∧ t.argAddr = u.argAddr ∧ t.argCount = u.argCount ∧
    t.argPlen = u.argPlen ∧ t.cfg = u.cfg ∧ ∀ i, t.pbufByte i = u.pbufByte i := by
  cases h with
  | writes _ hn => exact absurd (hw _ _ rfl) hn
  | resets => exact absurd rfl hr
  | _ => exact ⟨rfl, rfl, rfl, rfl, rfl, rfl, rfl, fun _ => rfl⟩

/-- Only a successful PARSE writes what is behind the gate (R22, R175). -/
theorem Effect.gated (h : Effect u m t) (hr : m ≠ .reset) :
    (t.resId = u.resId ∧ t.resErr = u.resErr ∧ t.resPlen = u.resPlen ∧ t.rbuf = u.rbuf) ∨
    (u.phase = .parse ∧ t.phase = .idle ∧ t.resValid = true ∧ t.resStatus = .ok) := by
  cases h with
  | parses _ _ hp => exact .inr ⟨hp, rfl, rfl, rfl⟩
  | resets => exact absurd rfl hr
  | _ => exact .inl ⟨rfl, rfl, rfl, rfl⟩

/-- A change of PHASE is a row of R179; what leaves PHASE alone is no row. -/
theorem Effect.phaseRow (h : Effect u m t) (hs : SequencerInv u) (hr : m ≠ .reset) :
    t.phase = u.phase ∨ phaseRow u.phase t.phase t.resStatus := by
  cases h with
  | waits | reads | hostErr | writes | transmits | receives => exact .inl rfl
  | refuses hb | binds hb => exact .inl (hs.phase_idle hb).symm
  | starts hb => simp [Machine.phaseRow, hs.phase_idle hb]
  | fails hc => exact .inr (Phase.phaseRow_of_failures hc)
  | resets => exact absurd rfl hr
  | builds _ _ hp | stuffs _ _ hp | appends _ _ hp | broadcasts _ hp | transmitted _ hp | received _ hp | verifies _ _ hp
    | parses _ _ hp => simp [Machine.phaseRow, hp]

/-- How each effect treats the requests of the command (R158, R162, R176). -/
theorem Effect.issued (h : Effect u m t) (hs : PortInv u) :
    t.issued = u.issued ∨
    (t.issued = [] ∧ (u.busy = false ∨ m = .reset)) ∨
    (u.busy = true ∧ u.phase = .transmit ∧ u.ctx.xpend = false ∧ t.ctx.xpend = true ∧
      u.issued = [] ∧ t.issued = [u.txRequest]) ∨
    (u.busy = true ∧ u.phase = .receive ∧ u.ctx.xpend = false ∧ t.ctx.xpend = true ∧
      u.issued = [u.txRequest] ∧ t.issued = [u.txRequest, u.rxRequest]) := by
  cases h with
  | refuses hb | binds hb | starts hb => exact .inr (.inl ⟨rfl, .inl hb⟩)
  | resets => exact .inr (.inl ⟨rfl, .inr rfl⟩)
  | transmits hb hx hp =>
    have hnone := hs.issued_transmit hp hx
    exact .inr (.inr (.inl ⟨hb, hp, hx, rfl, hnone, by simp [State.transmitStep, State.txRequest, hnone]⟩))
  | receives hb hx hp =>
    have hone := hs.issued_receive hp hx
    exact .inr (.inr (.inr ⟨hb, hp, hx, rfl, hone, by simp [State.receiveStep, State.rxRequest, hone]⟩))
  | _ => exact .inl rfl

theorem Effect.pbuf_wf (h : Effect u m t) (hs : Memory.wf u.cfg.maxParams u.pbuf) : Memory.wf t.cfg.maxParams t.pbuf := by
  cases h with
  | writes _ _ hkeep => exact hkeep hs
  | resets => exact Memory.nil_wf _
  | _ => exact hs

end Sys2Proof.Machine
end

section
/-! SUPPORT. The obligations on what a step can change. -/

open Sys2Proof.Machine

/-- Settles O39: each effect that changes PHASE is a row of R179. -/
theorem phaseTransitions : Obligations.PhaseTransitions := by
  unfold Obligations.PhaseTransitions
  intro s t hs h hr hne
  obtain ⟨l, heff⟩ := exists_effect_of_step h
  exact (heff.phaseRow hs hr).resolve_left hne

/-- Settles O44: the requests before and after each effect; that they stay one exchange is a part of the invariant. -/
theorem oneExchange : Obligations.OneExchange := by
  unfold Obligations.OneExchange
  intro s t hi h
  obtain ⟨-, -, -, -, -, -, hport⟩ := stepKeepsInv s t hi h
  obtain ⟨-, -, -, -, -, -, hs⟩ := hi
  obtain ⟨l, heff⟩ := exists_effect_of_step h
  exact ⟨hport.oneExchange, heff.issued hs⟩

/-- Settles O49: only a host write changes PBUF and it keeps the form, and reset empties the store. -/
theorem pbufCanonicalKept : Obligations.PbufCanonicalKept := by
  unfold Obligations.PbufCanonicalKept
  intro s t hs h
  obtain ⟨l, heff⟩ := exists_effect_of_step h
  exact heff.pbuf_wf hs

/-- Settles O50: every orderly move gives a next state, and HOSTERR could rise by a host write while BUSY = 1 only. -/
theorem orderlyStepsGoOn : Obligations.OrderlyStepsGoOn := by
  unfold Obligations.OrderlyStepsGoOn
  intro s u m hi hm ho
  obtain ⟨t, ht⟩ := State.takeMove_goesOn (hi.of_nextMove hm) ho
  have h : step s = .next t := (step_of_nextMove hm).trans ht
  refine ⟨t, h, fun hterr => ?_⟩
  have hraised := (effect_of_step hm h).hosterr_raised hterr
  obtain ⟨l, rfl⟩ := State.script_of_nextMove hm
  refine hraised.resolve_right ?_
  rintro ⟨hb, n, v, rfl⟩
  simp [State.orderly, show s.busy = true from hb] at ho

/-- Settles O52: INIT of an unbound engine is the one effect on the handle. -/
theorem handleImmutable : Obligations.HandleImmutable := by
  unfold Obligations.HandleImmutable
  intro s u t m hm hr h
  obtain ⟨l, rfl⟩ := State.script_of_nextMove hm
  exact (effect_of_step hm h).handle hr

/-- Settles O53: the host error is the one effect on HOSTERR. -/
theorem hostErrSticky : Obligations.HostErrSticky := by
  unfold Obligations.HostErrSticky
  intro s u t m hm hr h
  obtain ⟨l, rfl⟩ := State.script_of_nextMove hm
  have heff := effect_of_step hm h
  exact ⟨heff.hosterr_kept hr, fun hs ht => (heff.hosterr_raised ht).resolve_left (by simpa using hs)⟩

/-- Settles O54: of all effects only a host write to another number than CMD names these registers. -/
theorem engineNeverWritesOperands : Obligations.EngineNeverWritesOperands := by
  unfold Obligations.EngineNeverWritesOperands
  intro s u t m hm hr hw h
  obtain ⟨l, rfl⟩ := State.script_of_nextMove hm
  exact (effect_of_step hm h).operands hr hw

end

section
/-! SUPPORT. The register file, number by number: what reads where, and what a write leaves to every other number. -/

namespace Sys2Proof.Machine

variable {s u : State} {i n : Nat} {v : Word}

/-- Above the registers lie PBUF, RBUF and nothing else (R11, R27). -/
theorem State.readReg_of_gt (h : 0x0F < n) : s.readReg n =
    if pbufBase ≤ n ∧ n < pbufBase + s.cfg.maxParams then (s.pbufByte (n - pbufBase)).setWidth 16
    else if rbufBase ≤ n ∧ n < rbufBase + s.cfg.maxRead then
      if n - rbufBase < s.resPlen.toNat then s.gated ((byteAt s.rbuf (n - rbufBase)).setWidth 16) else 0#16
    else 0#16 := by
  unfold State.readReg
  split
  case h_17 => rfl
  all_goals exact absurd h (by decide)

theorem State.writeReg_of_gt (h : 0x0F < n) : s.writeReg n v =
    if pbufBase ≤ n ∧ n < pbufBase + s.cfg.maxParams then { s with pbuf := Memory.write (n - pbufBase) (lo8 v) s.pbuf } else s := by
  unfold State.writeReg
  split
  case h_7 => rfl
  all_goals exact absurd h (by decide)

theorem State.readReg_pbuf (h : pbufBase ≤ n ∧ n < pbufBase + s.cfg.maxParams) :
    s.readReg n = (s.pbufByte (n - pbufBase)).setWidth 16 := by
  rw [State.readReg_of_gt (Nat.lt_of_lt_of_le (by decide) h.1), if_pos h]

/-- A cell of RBUF: PBUF ends below its numbers (R6, R11). -/
theorem State.readReg_rbuf (hwf : s.cfg.wf = true) (hi : i < s.cfg.maxRead) : s.readReg (0x20000 + i) =
    if i < s.resPlen.toNat then s.gated ((byteAt s.rbuf i).setWidth 16) else 0#16 := by
  have hmax := maxParams_le_of_wf hwf
  rw [State.readReg_of_gt (by omega), if_neg (by simp only [pbufBase]; omega), if_pos (by simp only [rbufBase]; omega)]
  simp [rbufBase]

theorem State.readReg_unassigned (h : 0x0F < n) (hp : ¬(pbufBase ≤ n ∧ n < pbufBase + s.cfg.maxParams))
    (hr : ¬(rbufBase ≤ n ∧ n < rbufBase + s.cfg.maxRead)) : s.readReg n = 0#16 := by
  rw [State.readReg_of_gt h, if_neg hp, if_neg hr]

theorem State.gated_of_invalid (h : s.resValid = false) (w : Word) : s.gated w = 0#16 := by simp [State.gated, h]

theorem State.gated_of_valid (h : s.resValid = true) (w : Word) : s.gated w = w := by simp [State.gated, h]

theorem State.pbufByte_write_same (a : Nat) (b : Byte) : State.pbufByte { s with pbuf := Memory.write a b s.pbuf } a = b := by
  simp [State.pbufByte]

theorem State.pbufByte_write_other {a : Nat} (b : Byte) (h : i ≠ a) :
    State.pbufByte { s with pbuf := Memory.write a b s.pbuf } i = s.pbufByte i := by
  simp [State.pbufByte, Memory.read?_write_other _ _ _ _ h]

theorem State.readReg_write_pbuf_other {a k : Nat} (b : Byte) (h : pbufBase ≤ k → k - pbufBase ≠ a) :
    State.readReg { s with pbuf := Memory.write a b s.pbuf } k = s.readReg k := by
  unfold State.readReg
  split
  case h_17 =>
    split
    · next hk => rw [State.pbufByte_write_other b (h hk.1)]
    · rfl
  all_goals rfl

/-- A write leaves what every other number reads. -/
theorem State.readReg_writeReg_other {k : Nat} (h : k ≠ n) : (s.writeReg n v).readReg k = s.readReg k := by
  unfold State.writeReg
  split
  case h_7 =>
    split
    · next hn => exact State.readReg_write_pbuf_other _ fun hk => (tsub_left_inj hk hn.1).not.mpr h
    · rfl
  all_goals
    unfold State.readReg
    split
    any_goals rfl
    all_goals contradiction

theorem State.readReg_writeReg_word (h : n ∈ [0x03, 0x04, 0x06, 0x07, 0x08]) : (s.writeReg n v).readReg n = v := by
  simp only [List.mem_cons, List.not_mem_nil, or_false] at h
  rcases h with rfl | rfl | rfl | rfl | rfl <;> rfl

theorem State.readReg_writeReg_byte (h : n = 0x05 ∨ (pbufBase ≤ n ∧ n < pbufBase + s.cfg.maxParams)) :
    (s.writeReg n v).readReg n = (lo8 v).setWidth 16 := by
  rcases h with rfl | h
  · rfl
  · rw [State.writeReg_of_gt (Nat.lt_of_lt_of_le (by decide) h.1), if_pos h,
      State.readReg_pbuf (s := { s with pbuf := Memory.write _ _ s.pbuf }) h, State.pbufByte_write_same]

theorem step_hostWrite_idle (hm : s.nextMove = (.hostWrite n v, u)) (hb : u.busy = false) (hn : n ≠ 0) :
    step s = .next (u.writeReg n v) := by
  simp [step_of_nextMove hm, State.takeMove, State.hostWrite, hb, hn]

/-- Read-only numbers and numbers that are no cell of PBUF ignore a write (R27). -/
theorem State.writeReg_discarded (h : n ∈ [0x01, 0x02, 0x09, 0x0A, 0x0B, 0x0C, 0x0D, 0x0E, 0x0F] ∨
    (0x0F < n ∧ n < 0x10000) ∨ 0x10000 + s.cfg.maxParams ≤ n) : s.writeReg n v = s := by
  rcases h with h | h
  · simp only [List.mem_cons, List.not_mem_nil, or_false] at h
    rcases h with rfl | rfl | rfl | rfl | rfl | rfl | rfl | rfl | rfl <;> rfl
  · rw [State.writeReg_of_gt (by omega), if_neg (by simp only [pbufBase]; omega)]

/-- While RES_VALID = 0 no number reads what is behind the gate (R22). -/
theorem State.readReg_gate_closed (hv : s.resValid = false) (id err : Byte) (plen : Word) (rbuf : List Byte) :
    State.readReg { s with resId := id, resErr := err, resPlen := plen, rbuf := rbuf } n = s.readReg n := by
  unfold State.readReg
  split
  case h_17 => simp [State.gated, hv, State.pbufByte]
  any_goals rfl
  all_goals simp [State.gated, hv]

end Sys2Proof.Machine
end

section
/-! SUPPORT. The obligations on the register file. -/

open Sys2Proof.Machine

/-- Settles O55: the gate number by number, and PARSE as the only effect that writes behind it. -/
theorem resultGate : Obligations.ResultGate := by
  unfold Obligations.ResultGate
  refine ⟨fun s s' n hv hs' => ?_, fun s hv hwf => ?_, fun s i hv hi hwf => ?_, fun s u t m hm hr h hch => ?_⟩
  · rw [hs']
    exact State.readReg_gate_closed hv _ _ _ _
  · refine ⟨State.gated_of_invalid hv _, State.gated_of_invalid hv _, State.gated_of_invalid hv _, fun i hi => ?_⟩
    simp [State.readReg_rbuf hwf hi, State.gated_of_invalid hv]
  · refine ⟨State.gated_of_valid hv _, State.gated_of_valid hv _, State.gated_of_valid hv _, fun hlt => ?_, fun hle => ?_⟩
    · rw [State.readReg_rbuf hwf hi, if_pos hlt, State.gated_of_valid hv]
    · exact (State.readReg_rbuf hwf hi).trans (if_neg (by omega))
  · obtain ⟨l, rfl⟩ := State.script_of_nextMove hm
    exact ((effect_of_step hm h).gated hr).resolve_left hch

/-- Settles O56: what the number written reads, and that every other number reads as before. -/
theorem registerReadBack : Obligations.RegisterReadBack := by
  unfold Obligations.RegisterReadBack
  intro s u n v hm hb
  obtain ⟨l, rfl⟩ := State.script_of_nextMove hm
  refine ⟨fun hn => ?_, fun hn => ?_⟩
  · exact ⟨_, step_hostWrite_idle hm hb (by rintro rfl; simp at hn), State.readReg_writeReg_word hn,
      fun _ hk => State.readReg_writeReg_other hk⟩
  · exact ⟨_, step_hostWrite_idle hm hb (by omega), State.readReg_writeReg_byte hn, fun _ hk => State.readReg_writeReg_other hk⟩

/-- Settles O57: the numbers a write ignores, and the numbers that are no register, no cell of PBUF and none of RBUF. -/
theorem discardedWrites : Obligations.DiscardedWrites := by
  unfold Obligations.DiscardedWrites
  refine ⟨fun s u n v hm hb hn => ?_, fun s n hn => ?_⟩
  · obtain ⟨l, rfl⟩ := State.script_of_nextMove hm
    rw [step_hostWrite_idle hm hb (by rintro rfl; simp at hn), State.writeReg_discarded (s := { s with script := l }) hn]
  · rcases hn with rfl | hn
    · rfl
    · exact State.readReg_unassigned (by omega) (by simp only [pbufBase]; omega) (by simp only [rbufBase]; omega)

/-- Settles O58: in a command RES_VALID is 0 and status, cause and transport byte are clear, so all of them read 0. -/
theorem hostReads : Obligations.HostReads := by
  unfold Obligations.HostReads
  refine ⟨fun s u n hm => ?_, fun s hi hb => ?_⟩
  · obtain ⟨l, rfl⟩ := State.script_of_nextMove hm
    exact step_of_nextMove hm
  · obtain ⟨-, -, ⟨hwf, -⟩, hres, hctx, -⟩ := hi
    obtain ⟨hst, hc, hts, hv⟩ := hres.clear hb
    obtain ⟨hh, -⟩ := hctx hb
    refine ⟨fun n hn => ?_, fun i hi => ?_, ?_⟩
    · simp only [List.mem_cons, List.not_mem_nil, or_false] at hn
      rcases hn with rfl | rfl | rfl | rfl | rfl | rfl <;>
        simp [State.readReg, State.gated, hst, hc, hts, hv, Status.code, Cause.code]
    · simp [State.readReg_rbuf hwf hi, State.gated_of_invalid hv]
    · cases he : s.hosterr <;> simp [State.readReg, State.statWord, hb, hh, hv, he]

end

section
/-! SUPPORT. The frame of the instructions. A frame names what may change by giving it the value it has afterwards; everything else it
states to be as before. -/

namespace Sys2Proof.Machine

variable {s t u : State} {v : Word}

/-- At most RAW and PHASE change: the frame of the three instruction packets (R152). -/
def RawFrame (s t : State) : Prop :=
  t = { s with ctx := { s.ctx with raw := t.ctx.raw }, phase := t.phase }

/-- The frame of the status packet (R132, R186, R187); what is behind the gate changes with RES_VALID = 1 after only. -/
def ReplyFrame (s t : State) : Prop :=
  t = { s with
    ctx := { s.ctx with crc := t.ctx.crc, uns := t.ctx.uns, um := t.ctx.um, xpend := t.ctx.xpend }
    busy := t.busy, phase := t.phase, resStatus := t.resStatus, resCause := t.resCause, resValid := t.resValid
    resId := t.resId, resErr := t.resErr, resPlen := t.resPlen, rbuf := t.rbuf } ∧
  (t.resValid = false → t.resId = s.resId ∧ t.resErr = s.resErr ∧ t.resPlen = s.resPlen ∧ t.rbuf = s.rbuf)

/-- The frame of the commands PING, READ and WRITE (R144, R148, R186). -/
def CommandFrame (s t : State) : Prop :=
  t = { s with
    ctx := t.ctx, issued := t.issued, busy := t.busy, phase := t.phase, hosterr := t.hosterr, resStatus := t.resStatus
    resCause := t.resCause, resTstat := t.resTstat, resValid := t.resValid }

/-- The frame of INIT: that of the other commands, and the handle (R145). -/
def InitFrame (s t : State) : Prop := CommandFrame { s with devId := t.devId, hvalid := t.hvalid } t

theorem RawFrame.pbufByte (h : RawFrame s t) (a : Nat) : t.pbufByte a = s.pbufByte a :=
  (congrArg (State.pbufByte · a) h).trans rfl

theorem RawFrame.hosterr (h : RawFrame s t) : t.hosterr = s.hosterr :=
  (congrArg State.hosterr h).trans rfl

theorem ReplyFrame.pbufByte (h : ReplyFrame s t) (a : Nat) : t.pbufByte a = s.pbufByte a :=
  (congrArg (State.pbufByte · a) h.1).trans rfl

theorem ReplyFrame.hosterr (h : ReplyFrame s t) : t.hosterr = s.hosterr :=
  (congrArg State.hosterr h.1).trans rfl

theorem CommandFrame.pbufByte (h : CommandFrame s t) (a : Nat) : t.pbufByte a = s.pbufByte a :=
  (congrArg (State.pbufByte · a) h).trans rfl

theorem State.inPhase_induction {P : State → Prop} {ph : Phase} {f : State → State} (hstay : P s) (hstep : P (f s)) :
    P (s.inPhase ph f) := by
  unfold State.inPhase
  split
  · exact hstep
  · exact hstay

/-- What the three instruction packets have in common (R152). -/
theorem rawFrame_of_built {raw : State → List Byte}
    (h : (.next (s.inPhase .build fun s => s.built (raw s)) : Result) = .next t) : RawFrame s t := by
  obtain rfl := Host.Outcome.next.inj h
  exact State.inPhase_induction rfl rfl

theorem replyFrame_verifyStep (s : State) (rx : List Byte) : ReplyFrame s (s.verifyStep rx) := by
  rcases s.verifyStep_cases rx with ⟨-, h⟩ | ⟨-, -, h⟩ | ⟨-, -, -, h⟩ | ⟨-, -, -, h⟩ <;> rw [h] <;>
    exact ⟨rfl, fun _ => ⟨rfl, rfl, rfl, rfl⟩⟩

theorem replyFrame_parseStep (s : State) : ReplyFrame s s.parseStep := by
  rcases s.parseStep_cases with ⟨-, h⟩ | ⟨-, -, h⟩ | ⟨-, -, h⟩ <;> rw [h]
  · exact ⟨rfl, fun _ => ⟨rfl, rfl, rfl, rfl⟩⟩
  · exact ⟨rfl, fun _ => ⟨rfl, rfl, rfl, rfl⟩⟩
  · exact ⟨rfl, nofun⟩

theorem replyFrame_execStatusPkt {id : Byte} {len : Word} (h : execStatusPkt id len s = .next t) : ReplyFrame s t := by
  have hstay : ReplyFrame s s := ⟨rfl, fun _ => ⟨rfl, rfl, rfl, rfl⟩⟩
  unfold execStatusPkt at h
  split at h <;> obtain rfl := Host.Outcome.next.inj h
  · exact State.inPhase_induction hstay (replyFrame_parseStep s)
  · exact State.inPhase_induction hstay (replyFrame_verifyStep s _)

theorem Effect.initFrame (h : Effect u (.hostWrite 0 v) t) : InitFrame u t := by
  cases h with
  | writes _ hn => exact absurd rfl hn
  | _ => rfl

/-- A CMD value other than that of INIT leaves the handle alone. -/
theorem Effect.commandFrame (h : Effect u (.hostWrite 0 v) t) (hv : lo8 v ≠ 0x00#8) : CommandFrame u t := by
  cases h with
  | writes _ hn => exact absurd rfl hn
  | binds _ _ hlo => exact absurd hlo hv
  | _ => rfl

theorem Effect.hosterr_eq {m : Move} (h : Effect u m t) (hr : m ≠ .reset) (hb : u.busy = false) : t.hosterr = u.hosterr :=
  Bool.eq_iff_iff.mpr ⟨fun ht => (h.hosterr_raised ht).resolve_right (by simp [hb]), h.hosterr_kept hr⟩

/-- A command instruction is a host write to CMD, whether BUSY = 0 or 1 (R12, R144). -/
theorem Effect.of_onCommand {f : State → State} (hf : s.busy = false → Effect s (.hostWrite 0 v) (f s.accept)) :
    Effect s (.hostWrite 0 v) (s.onCommand f) := by
  cases hb : s.busy
  · rw [State.onCommand_idle hb]
    exact hf hb
  · rw [State.onCommand_busy hb]
    exact .hostErr hb

theorem Effect.of_exec_init (h : exec .init s = .next t) : Effect s (.hostWrite 0 0x00#16) t := by
  obtain rfl := Host.Outcome.next.inj h
  exact .of_onCommand fun hb => .of_bindHandle hb (by decide)

theorem Effect.of_exec_ping (h : exec .ping s = .next t) : Effect s (.hostWrite 0 0x01#16) t := by
  obtain rfl := Host.Outcome.next.inj h
  exact .of_onCommand .of_acceptPing

theorem Effect.of_exec_read (h : exec .read s = .next t) : Effect s (.hostWrite 0 0x02#16) t := by
  obtain rfl := Host.Outcome.next.inj h
  exact .of_onCommand .of_acceptRead

theorem Effect.of_exec_write (h : exec .write s = .next t) : Effect s (.hostWrite 0 0x03#16) t := by
  obtain rfl := Host.Outcome.next.inj h
  exact .of_onCommand .of_acceptWrite

end Sys2Proof.Machine
end

section
/-! SUPPORT. The obligation on the frame of the instructions. -/

open Sys2Proof Sys2Proof.Machine

/-- Settles O29: each instruction has its frame. A command is a host write to CMD, which leaves HOSTERR alone while BUSY = 0. -/
theorem execFrame : Obligations.ExecFrame := by
  unfold Obligations.ExecFrame
  intro i s t h
  cases i with
  | pingPkt | readPkt | writePkt =>
    have hf := rawFrame_of_built h
    exact ⟨hf.pbufByte, hf, fun _ => hf.hosterr, fun _ => hf.hosterr⟩
  | statusPkt id len =>
    have hf := replyFrame_execStatusPkt h
    exact ⟨hf.pbufByte, hf, fun _ => hf.hosterr, fun _ => hf.hosterr⟩
  | init =>
    have he := Effect.of_exec_init h
    exact ⟨he.initFrame.pbufByte, he.initFrame, he.hosterr_eq nofun, nofun⟩
  | ping =>
    have he := Effect.of_exec_ping h
    have hf := he.commandFrame (by decide)
    exact ⟨hf.pbufByte, hf, he.hosterr_eq nofun, nofun⟩
  | read =>
    have he := Effect.of_exec_read h
    have hf := he.commandFrame (by decide)
    exact ⟨hf.pbufByte, hf, he.hosterr_eq nofun, nofun⟩
  | write =>
    have he := Effect.of_exec_write h
    have hf := he.commandFrame (by decide)
    exact ⟨hf.pbufByte, hf, he.hosterr_eq nofun, nofun⟩

end

section
/-! SUPPORT. An idle engine, and the obligations on a busy engine's host writes and on reset. -/

namespace Sys2Proof.Machine

variable {s u : State}

theorem State.engineTurn_of_idle (hb : s.busy = false) : s.engineTurn = .next s := by
  simp [State.engineTurn, State.engineEnabled, hb]

theorem State.txAnswer_of_not_pending (hx : s.ctx.xpend = false) (ts : Byte) : s.txAnswer ts = .next s := by
  simp [State.txAnswer, State.awaits, hx]

theorem State.rxAnswer_of_not_pending (hx : s.ctx.xpend = false) (ts : Byte) (data : List Byte) :
    s.rxAnswer ts data = .next s := by
  simp [State.rxAnswer, State.awaits, hx]

theorem step_reset (hm : s.nextMove = (.reset, u)) : step s = .next (State.afterReset s.cfg (s.era + 1) u.script) := by
  obtain ⟨l, rfl⟩ := State.script_of_nextMove hm
  exact step_of_nextMove hm

/-- Nothing but a host access or a reset moves an idle engine (R31, R212). -/
theorem step_of_idle (hb : s.busy = false) (hx : s.ctx.xpend = false) (h : s.nextMove = (.engine, u) ∨
    (∃ ts, s.nextMove = (.txAnswer ts, u)) ∨ ∃ ts data, s.nextMove = (.rxAnswer ts data, u)) : step s = .next u := by
  rcases h with hm | ⟨ts, hm⟩ | ⟨ts, data, hm⟩ <;> rw [step_of_nextMove hm] <;> obtain ⟨l, rfl⟩ := State.script_of_nextMove hm
  · exact State.engineTurn_of_idle (s := { s with script := l }) hb
  · exact State.txAnswer_of_not_pending (s := { s with script := l }) hx ts
  · exact State.rxAnswer_of_not_pending (s := { s with script := l }) hx ts data

end Sys2Proof.Machine

open Sys2Proof Sys2Proof.Machine

/-- Settles O24: while BUSY = 1 a host write and a command are the host error, whatever they name. -/
theorem hostWriteWhileBusy : Obligations.HostWriteWhileBusy := by
  unfold Obligations.HostWriteWhileBusy
  refine ⟨fun s u n v hm hb => ?_, fun s i hb hport => ?_⟩
  · rw [step_of_nextMove hm]
    exact if_pos hb
  · cases i with
    | pingPkt | readPkt | writePkt | statusPkt => cases hport
    | init | ping | read | write => exact congrArg Host.Outcome.next (State.onCommand_busy hb)

/-- Settles O59: the registers of the state that reset leaves, and an idle engine after it. -/
theorem resetValues : Obligations.ResetValues := by
  unfold Obligations.ResetValues
  refine ⟨fun t ht => ?_, rfl, rfl, fun s u hm => ⟨_, step_reset hm, rfl⟩⟩
  have hreset : ∃ c era script, t = State.afterReset c era script := by
    rcases ht with rfl | ⟨s, u, hm, h⟩
    · exact ⟨_, _, _, rfl⟩
    · exact ⟨_, _, _, Host.Outcome.next.inj (h.symm.trans (step_reset hm))⟩
  obtain ⟨c, era, script, rfl⟩ := hreset
  refine ⟨rfl, rfl, rfl, rfl, by simp [State.statWord, State.afterReset], rfl, rfl, rfl, rfl, rfl, rfl, rfl, rfl, rfl, rfl, rfl,
    rfl, rfl, rfl, fun n hn => ?_, fun hwf i hi => ?_, fun u hu => step_of_idle rfl rfl hu⟩
  · simp only [List.mem_cons, List.not_mem_nil, or_false] at hn
    rcases hn with rfl | rfl | rfl <;> rfl
  · exact (State.readReg_rbuf hwf hi).trans (if_neg (Nat.not_lt_zero i))

end

section
/-! SUPPORT. The encoder and the decoder undo each other: first for a packet header with any code, then row by row. -/

namespace Sys2Proof

variable {c : Config} {i : Instr} {bytes rest : List Byte}

/-- The four instruction codes of the packet rows (R65). -/
def Config.codes (c : Config) : List Byte := [c.instrPing, c.instrRead, c.instrWrite, Machine.instrStatus]

theorem Config.codes_nodup_of_wf (h : c.wf = true) : c.codes.Nodup := by
  simp only [Config.wf, Bool.and_eq_true, decide_eq_true_eq] at h
  obtain ⟨⟨-, hnodup⟩, -⟩ := h
  exact hnodup

/-- A header with the right marker and reserved byte is decided by its code, and for PING by its length (R65 to R69). -/
theorem decodePacket_packetHeader (c : Config) (id code : Byte) (len : Word) (rest : List Byte) :
    decodePacket c (packetHeader id len code ++ rest) =
      if code = c.instrPing then if len = 3#16 then .ok (.pingPkt id, rest) else .error .badPingLength
      else if code = c.instrRead then .ok (.readPkt id len, rest)
      else if code = c.instrWrite then .ok (.writePkt id len, rest)
      else if code = Machine.instrStatus then .ok (.statusPkt id len, rest)
      else .error .unknownInstr := by
  simp [decodePacket, packetHeader]

theorem packetHeader_of_decodePacket (h : decodePacket c bytes = .ok (i, rest)) :
    ∃ id len code, bytes = packetHeader id len code ++ rest := by
  obtain ⟨id, lL, lH, code, hb, -⟩ := bytes_of_decodePacket h
  exact ⟨id, Machine.le16 lL lH, code, by simp [hb, packetHeader]⟩

/-- The four codes being different, each packet row reads back (R65 to R69). -/
theorem decode_encode (hc : c.codes.Nodup) (i : Instr) (rest : List Byte) :
    decode c i.port (encode c i ++ rest) = .ok (i, rest) := by
  simp only [Config.codes, List.nodup_cons, List.mem_cons, List.not_mem_nil, or_false, not_or] at hc
  obtain ⟨⟨hpr, hpw, hps⟩, ⟨hrw, hrs⟩, hws, -⟩ := hc
  cases i with
  | pingPkt | readPkt | writePkt | statusPkt =>
    simp [encode, Instr.port, decodePacket_packetHeader, *, Ne.symm]
  | init | ping | read | write => rfl

theorem encode_of_decodePacket (h : decodePacket c bytes = .ok (i, rest)) : i.port = .packet ∧ bytes = encode c i ++ rest := by
  obtain ⟨id, len, code, rfl⟩ := packetHeader_of_decodePacket h
  rw [decodePacket_packetHeader] at h
  split_ifs at h with hp hl hr hw hs <;> cases h
  · exact ⟨rfl, by rw [hl, hp]; rfl⟩
  · exact ⟨rfl, by rw [hr]; rfl⟩
  · exact ⟨rfl, by rw [hw]; rfl⟩
  · exact ⟨rfl, by rw [hs]; rfl⟩

theorem encode_of_decodeCommand {v : Byte} (h : decodeCommand v = .ok i) : i.port = .command ∧ encode c i = [v] := by
  unfold decodeCommand at h
  split_ifs at h with h0 h1 h2 h3 <;> cases h
  · exact ⟨rfl, h0 ▸ rfl⟩
  · exact ⟨rfl, h1 ▸ rfl⟩
  · exact ⟨rfl, h2 ▸ rfl⟩
  · exact ⟨rfl, h3 ▸ rfl⟩

theorem encode_of_decode {port : Port} (h : decode c port bytes = .ok (i, rest)) :
    i.port = port ∧ bytes = encode c i ++ rest := by
  cases port with
  | packet => exact encode_of_decodePacket (decode_packet c bytes ▸ h)
  | command =>
    cases bytes with
    | nil => cases h
    | cons v tail =>
      cases hv : decodeCommand v with
      | error => simp [decode, hv, Except.map] at h
      | ok j =>
        simp only [decode, hv, Except.map, Except.ok.injEq, Prod.mk.injEq] at h
        obtain ⟨rfl, rfl⟩ := h
        obtain ⟨hport, henc⟩ := encode_of_decodeCommand (c := c) hv
        exact ⟨hport, by rw [henc]; rfl⟩

/-- At the packet port the decoder answers exactly the encodings (R60, R76). -/
theorem decode_packet_eq_ok_iff (hc : c.codes.Nodup) (hi : i.port = .packet) :
    decode c .packet bytes = .ok (i, rest) ↔ bytes = encode c i ++ rest :=
  ⟨fun h => (encode_of_decode h).2, fun h => by rw [h, ← hi]; exact decode_encode hc i rest⟩

/-- Bytes after a packet's header stay behind it. -/
theorem decode_packet_append (hc : c.codes.Nodup) (h : decode c .packet bytes = .ok (i, rest)) (tail : List Byte) :
    decode c .packet (bytes ++ tail) = .ok (i, rest ++ tail) := by
  obtain ⟨hi, rfl⟩ := encode_of_decode h
  rw [decode_packet_eq_ok_iff hc hi, List.append_assoc]

end Sys2Proof
end

section
/-! SUPPORT. The masks of the packet rows: which eight bytes they let through. -/

namespace Sys2Proof

theorem Machine.defaultConfig_codes_nodup : Machine.defaultConfig.codes.Nodup := by decide

theorem exists_bytes_of_length_eight {x : List Byte} (h : x.length = 8) :
    ∃ b0 b1 b2 b3 b4 b5 b6 b7, x = [b0, b1, b2, b3, b4, b5, b6, b7] := by
  match x, h with
  | [b0, b1, b2, b3, b4, b5, b6, b7], _ => exact ⟨b0, b1, b2, b3, b4, b5, b6, b7, rfl⟩

@[simp] theorem byte_and_ff (b : Byte) : b &&& 0xFF#8 = b := BitVec.and_allOnes

/-- The mask that leaves id and length open lets through the headers with the row's code (R67 to R69, R76). -/
theorem rowMatches_open_length_iff {header : List Byte} (h : header.length = 8) (code : Byte) :
    Machine.rowMatches [0xFF, 0xFF, 0xFF, 0xFF, 0x00, 0x00, 0x00, 0xFF] [0xFF, 0xFF, 0xFD, 0x00, 0x00, 0x00, 0x00, code] header = true ↔
      ∃ id len, header = packetHeader id len code := by
  constructor
  · intro hm
    obtain ⟨b0, b1, b2, b3, id, lL, lH, b7, rfl⟩ := exists_bytes_of_length_eight h
    exact ⟨id, Machine.le16 lL lH, by
      simpa [Machine.rowMatches, packetHeader, Machine.mark1, Machine.mark2, Machine.reserved] using hm⟩
  · rintro ⟨id, len, rfl⟩
    simp [Machine.rowMatches, packetHeader, Machine.mark1, Machine.mark2, Machine.reserved]

/-- The mask of PING_PKT leaves the id alone open: the length field is 3 (R66, R76). -/
theorem rowMatches_open_id_iff {header : List Byte} (h : header.length = 8) (code : Byte) :
    Machine.rowMatches [0xFF, 0xFF, 0xFF, 0xFF, 0x00, 0xFF, 0xFF, 0xFF] [0xFF, 0xFF, 0xFD, 0x00, 0x00, 0x03, 0x00, code] header = true ↔
      ∃ id, header = packetHeader id 3#16 code := by
  obtain ⟨b0, b1, b2, b3, id, lL, lH, b7, rfl⟩ := exists_bytes_of_length_eight h
  have hlo : Machine.lo8 3#16 = 3#8 := by decide
  have hhi : Machine.hi8 3#16 = 0#8 := by decide
  simp [Machine.rowMatches, packetHeader, Machine.mark1, Machine.mark2, Machine.reserved, hlo, hhi]

end Sys2Proof
end

section
/-! SUPPORT. The obligations on the encoding. -/

open Sys2Proof Sys2Proof.Machine

/-- Settles O1: the codes of R6 are different, so each row reads back. -/
theorem encodeThenDecode : Obligations.EncodeThenDecode := by
  unfold Obligations.EncodeThenDecode
  exact fun c i rest hc => decode_encode (Config.codes_nodup_of_wf hc) i rest

/-- Settles O2: each branch of the decoder that answers has tested every byte that the encoder writes. -/
theorem decodeThenEncode : Obligations.DecodeThenEncode := by
  unfold Obligations.DecodeThenEncode
  exact fun c port bytes i rest h => encode_of_decode h

/-- Settles O4: mask and match, and the decoder, both say that the eight bytes are the encoding of the kind. -/
theorem packetRowsMatchMasks : Obligations.PacketRowsMatchMasks := by
  unfold Obligations.PacketRowsMatchMasks
  intro header h
  have hdec (i : Instr) (hi : i.port = .packet) :
      decode defaultConfig .packet header = .ok (i, []) ↔ header = encode defaultConfig i := by
    rw [decode_packet_eq_ok_iff defaultConfig_codes_nodup hi, List.append_nil]
  exact ⟨(rowMatches_open_id_iff h 0x01).trans (exists_congr fun id => (hdec (.pingPkt id) rfl).symm),
    (rowMatches_open_length_iff h 0x02).trans (exists₂_congr fun id len => (hdec (.readPkt id len) rfl).symm),
    (rowMatches_open_length_iff h 0x03).trans (exists₂_congr fun id len => (hdec (.writePkt id len) rfl).symm),
    (rowMatches_open_length_iff h 0x55).trans (exists₂_congr fun id len => (hdec (.statusPkt id len) rfl).symm)⟩

/-- Settles O3: written-out words, decoded. -/
theorem specWordsDecode : Obligations.SpecWordsDecode := by
  unfold Obligations.SpecWordsDecode
  decide

end

section
/-! SUPPORT. The instruction that a step runs: at the host's write to CMD, at the engine's turn, and where a word is placed. -/

namespace Sys2Proof.Machine

variable {s : State} {i : Instr}

/-- A host write of an opcode to CMD runs its command, and while BUSY = 1 that is the host error (R12, R17, R144). -/
theorem State.hostWrite_command {v : Word} {rest : List Byte} (h : decode s.cfg .command [lo8 v] = .ok (i, rest)) :
    s.hostWrite 0x00 v = exec i s := by
  cases hb : s.busy with
  | true =>
    have hexec : exec i s = .next s.hostError := hostWriteWhileBusy.2 s i hb (encode_of_decode h).1
    rw [hexec]
    exact if_pos hb
  | false => simp [State.hostWrite, State.writeCmd, hb, h]

theorem State.engineTurn_of_engineInstr (hb : s.busy = true) (hx : s.ctx.xpend = false) (hi : s.engineInstr = some i) :
    s.engineTurn = exec i s := by
  simp [State.engineTurn, State.engineEnabled, hb, hx, hi]

theorem State.engineInstr_of_build (hp : s.phase = .build) : s.engineInstr = s.contextInstr := by
  simp [State.engineInstr, hp]

/-- In phases 6 and 7 the engine runs the status packet at the front of RXB (R76). -/
theorem State.engineInstr_of_status {id : Byte} {len : Word} {rest : List Byte} (hp : s.phase = .verify ∨ s.phase = .parse)
    (hd : decode s.cfg .packet s.ctx.rxb = .ok (.statusPkt id len, rest)) : s.engineInstr = some (.statusPkt id len) := by
  rcases hp with hp | hp <;> simp only [State.engineInstr, State.receivedInstr, hp, hd]

/-- The packet of the operation in the context begins with the bits of the instruction packet that the context asks for (R152). -/
theorem State.contextRaw_eq_encode (hc : s.cfg.maxParams ≤ 65532) (hfit : s.paramsFit) :
    ∃ i, s.contextInstr = some i ∧ i.port = .packet ∧ s.contextRaw = encode s.cfg i ++ s.contextRaw.drop 8 := by
  rw [← State.builtPacket_eq_contextRaw hc hfit]
  unfold State.contextInstr State.builtPacket
  cases hop : s.ctx.op with
  | none => exact absurd hop (State.op_ne_none_of_paramsFit hfit)
  | ping | read | write => exact ⟨_, rfl, rfl, rfl⟩

theorem lo8_ofNat_mod (w : Nat) : lo8 (BitVec.ofNat 16 (w % 256)) = BitVec.ofNat 8 w := by
  apply BitVec.eq_of_toNat_eq
  simp only [lo8, BitVec.toNat_setWidth, BitVec.toNat_ofNat]
  omega

theorem decode_of_decodeTableWord_byte {w : Nat} (h : decodeTableWord 8 w = some i) (c : Config) :
    ∃ rest, decode c .command [BitVec.ofNat 8 w] = .ok (i, rest) := by
  simp only [decodeTableWord, Nat.le_refl, if_true] at h
  split at h <;> cases h
  next rest hd => exact ⟨rest, hd⟩

theorem decode_of_decodeTableWord_header {w : Nat} (h : decodeTableWord 64 w = some i) :
    ∃ rest, decode defaultConfig .packet (tableHeader 64 w) = .ok (i, rest) := by
  simp only [decodeTableWord, Nat.reduceLeDiff, if_false] at h
  split at h <;> cases h
  next rest hd => exact ⟨rest, hd⟩

/-- A placed header is met by the engine's turn (log 11). -/
theorem State.nextMove_placePacket (s : State) (header : List Byte) :
    (s.placePacket header).nextMove = (.engine, { s.placePacket header with script := s.script }) := by
  unfold State.placePacket
  split <;> rfl

theorem State.placePacket_enabled (s : State) (header : List Byte) :
    (s.placePacket header).busy = true ∧ (s.placePacket header).ctx.xpend = false := by
  unfold State.placePacket
  split <;> exact ⟨rfl, rfl⟩

/-- The instruction that a placed header decodes to is the one the engine runs (log 11). -/
theorem State.engineInstr_placePacket {header rest : List Byte} (hc : s.cfg.codes.Nodup)
    (hd : decode s.cfg .packet header = .ok (i, rest)) (script : List Move) :
    State.engineInstr { s.placePacket header with script := script } = some i := by
  obtain ⟨hport, -⟩ := encode_of_decode hd
  cases i with
  | pingPkt => simp only [State.placePacket, hd]; rfl
  | readPkt id len | writePkt id len =>
    have hlen : len - 3#16 + 3#16 = len := BitVec.sub_add_cancel len 3#16
    simp [State.placePacket, hd, State.placeBuild, State.engineInstr, State.contextInstr, hlen]
  | statusPkt id len =>
    simp only [State.placePacket, hd]
    exact State.engineInstr_of_status (.inl rfl) (decode_packet_append hc hd _)
  | init | ping | read | write => cases hport

end Sys2Proof.Machine

open Sys2Proof Sys2Proof.Machine

/-- Settles O30: at CMD, in phases 1, 6 and 7, and where a word is placed, the step is exec of what the decoder reads there. -/
theorem stepRunsDecodedInstruction : Obligations.StepRunsDecodedInstruction := by
  unfold Obligations.StepRunsDecodedInstruction
  refine ⟨fun s u v i rest hm hd => ?_, fun s u id len rest hm hb hx hp hd => ?_, fun s u hm hb hx hp hwf hfit => ?_,
    fun s hs => by simp [State.nextMove, hs], fun s w i h => ?_, fun s w i hc h => ?_⟩
  · rw [step_of_nextMove hm]
    exact State.hostWrite_command hd
  · rw [step_of_nextMove hm]
    exact State.engineTurn_of_engineInstr hb hx (State.engineInstr_of_status hp hd)
  · obtain ⟨i, hi, hport, hraw⟩ := State.contextRaw_eq_encode (maxParams_le_of_wf hwf) hfit
    refine ⟨i, (decode_packet_eq_ok_iff (Config.codes_nodup_of_wf hwf) hport).mpr hraw, ?_⟩
    rw [step_of_nextMove hm]
    exact State.engineTurn_of_engineInstr hb hx ((State.engineInstr_of_build hp).trans hi)
  · obtain ⟨rest, hd⟩ := decode_of_decodeTableWord_byte h s.cfg
    have hm : (s.withFetchWord 8 w).nextMove = (.hostWrite 0x00 (BitVec.ofNat 16 (w % 256)), s) := rfl
    rw [step_of_nextMove hm]
    exact State.hostWrite_command (lo8_ofNat_mod w ▸ hd)
  · obtain ⟨rest, hd⟩ := decode_of_decodeTableWord_header h
    rw [← hc] at hd
    have hplace : s.withFetchWord 64 w = s.placePacket (tableHeader 64 w) := rfl
    obtain ⟨hb, hx⟩ := s.placePacket_enabled (tableHeader 64 w)
    rw [hplace, step_of_nextMove (s.nextMove_placePacket _)]
    exact State.engineTurn_of_engineInstr hb hx
      (State.engineInstr_placePacket (hc ▸ defaultConfig_codes_nodup) hd s.script)

end

section
/-! SUPPORT. The checksum in natural-number arithmetic, on several ranges one after the other, and at the end of a packet. -/

namespace Sys2Proof.Machine

variable {c : Config} {pkt : List Byte}

/-- The mask of R91 changes nothing: both operands of the exclusive or are bytes. -/
theorem crcIndex_eq_xor (seed : Word) (b : Byte) : crcIndex seed b = (seed.toNat / 256) ^^^ b.toNat := by
  have hlt : (seed.toNat / 256) ^^^ b.toNat < 2 ^ 8 := Nat.xor_lt_two_pow (by omega) b.isLt
  have hmask : (0x00FF#16).toNat = 2 ^ 8 - 1 := rfl
  rw [crcIndex, BitVec.toNat_and, BitVec.toNat_xor, BitVec.toNat_ushiftRight, Nat.shiftRight_eq_div_pow,
    BitVec.toNat_setWidth_of_le (by decide), hmask, Nat.and_two_pow_sub_one_eq_mod, Nat.mod_eq_of_lt hlt]

/-- Every index is a place of the table (R96). -/
theorem crcIndex_lt (seed : Word) (b : Byte) : crcIndex seed b < 256 := by
  rw [crcIndex_eq_xor]
  exact Nat.xor_lt_two_pow (n := 8) (by omega) b.isLt

/-- The shift of R91: the low byte moves up and the high byte is dropped. -/
theorem toNat_shiftLeft_eight (v : Word) : (v <<< 8).toNat = v.toNat % 256 * 256 := by
  simp only [BitVec.toNat_shiftLeft, Nat.shiftLeft_eq]
  omega

theorem crcStep_eq_of_lt {table : List Word} {seed : Word} {b : Byte} (h : crcIndex seed b < table.length) :
    crcStep table seed b = (seed <<< 8) ^^^ table[crcIndex seed b] := by
  rw [crcStep, List.getD_eq_getElem _ _ h]

/-- The checksum is running (R93). -/
theorem crc_append (table : List Word) (seed : Word) (x y : List Byte) :
    crc table seed (x ++ y) = crc table (crc table seed x) y := List.foldl_append

theorem crc_flatten (table : List Word) (seed : Word) (chunks : List (List Byte)) :
    crc table seed chunks.flatten = chunks.foldl (crc table) seed := by
  induction chunks generalizing seed with
  | nil => rfl
  | cons x chunks ih => rw [List.flatten_cons, crc_append, ih, List.foldl_cons]

/-- A word is its two bytes (R43). -/
theorem le16_eq_iff {x y : Byte} {v : Word} : le16 x y = v ↔ x = lo8 v ∧ y = hi8 v := by
  constructor
  · rintro rfl
    exact ⟨(lo8_le16 x y).symm, (hi8_le16 x y).symm⟩
  · rintro ⟨rfl, rfl⟩
    exact le16_lo8_hi8 v

/-- The checksum of a packet does not depend on what follows it (R94, R95). -/
theorem packetCrc_append (c : Config) (pkt tail : List Byte) :
    packetCrc c (pkt ++ tail) pkt.length = packetCrc c pkt pkt.length := by
  simp [packetCrc, between]

theorem byteAt_append_of_lt {i : Nat} (h : i < pkt.length) (tail : List Byte) : byteAt (pkt ++ tail) i = byteAt pkt i :=
  List.getD_append _ _ _ _ h

theorem wordAt_append_of_lt {i : Nat} (h : i + 1 < pkt.length) (tail : List Byte) : wordAt (pkt ++ tail) i = wordAt pkt i := by
  rw [wordAt, byteAt_append_of_lt (by omega), byteAt_append_of_lt h, wordAt]

theorem wordAt_length_append (pkt : List Byte) (x y : Byte) : wordAt (pkt ++ [x, y]) pkt.length = le16 x y := by
  simp [wordAt, byteAt]

/-- Verifying compares the checksum with the word at the end (R95). -/
theorem crcVerify_append_iff {x y : Byte} : crcVerify c (pkt ++ [x, y]) = true ↔ le16 x y = packetCrc c pkt pkt.length := by
  have hlen : (pkt ++ [x, y]).length - 2 = pkt.length := by simp
  rw [crcVerify, hlen, packetCrc_append, wordAt_length_append, beq_iff_eq, eq_comm]

/-- Only one trailing byte verifies (R95). -/
theorem crcVerify_last_inj {rx : List Byte} {a b : Byte} (hrx : rx ≠ []) (ha : crcVerify c (rx ++ [a]) = true)
    (hb : crcVerify c (rx ++ [b]) = true) : a = b := by
  obtain ⟨pkt, x, rfl⟩ := List.eq_nil_or_concat rx |>.resolve_left hrx
  simp only [List.concat_eq_append, List.append_assoc, List.singleton_append] at ha hb
  obtain ⟨-, rfl⟩ := le16_eq_iff.mp (crcVerify_append_iff.mp ha)
  obtain ⟨-, rfl⟩ := le16_eq_iff.mp (crcVerify_append_iff.mp hb)
  rfl

end Sys2Proof.Machine
end

section
/-! SUPPORT. The checks of a reply (R125 to R132): what acceptance means, and what the trailing byte has no part in. -/

namespace Sys2Proof.Machine

variable {c : Config} {rx : List Byte} {n : Nat} {r : Reply}

/-- One check of R132: its cause answers where it fails, and the checks after it decide where it passes. -/
theorem check_eq_ok_iff {passes : Bool} {cause : Cause} {rest : Except Cause Reply} :
    (if !passes then .error cause else rest) = .ok r ↔ passes = true ∧ rest = .ok r := by
  cases passes <;> simp

/-- A reply is accepted when all five checks pass (R132). -/
theorem acceptStatus_eq_ok_iff : acceptStatus c rx n = .ok r ↔
    checkMarker rx = true ∧ checkLength rx = true ∧ crcVerify c rx = true ∧
    checkFull (unstuff (replyRegion rx)) rx.length = true ∧ checkInstr (unstuff (replyRegion rx)) = true ∧
    extract (unstuff (replyRegion rx)) n = r := by
  simp only [acceptStatus, check_eq_ok_iff, Except.ok.injEq]

theorem acceptStatus_eq_badCrc (hm : checkMarker rx = true) (hl : checkLength rx = true) (hc : crcVerify c rx = false) :
    acceptStatus c rx n = .error .badCrc := by
  simp [acceptStatus, hm, hl, hc]

/-- The instruction byte is the fifth of the region, and three bytes before the region and two after it are no part of it (R128, R129). -/
theorem ten_le_length_of_checkInstr (h : checkInstr (unstuff (replyRegion rx)) = true) : 10 ≤ rx.length := by
  have hle := length_unstuff_le (replyRegion rx)
  rw [replyRegion, length_between] at hle
  by_contra hshort
  have hbyte : byteAt (unstuff (replyRegion rx)) 4 = 0#8 := List.getD_eq_default _ _ (by rw [replyRegion]; omega)
  rw [checkInstr, hbyte] at h
  exact absurd h (by decide)

theorem checkMarker_append_of_le (h : 3 ≤ rx.length) (tail : List Byte) : checkMarker (rx ++ tail) = checkMarker rx := by
  rw [checkMarker, byteAt_append_of_lt (by omega), byteAt_append_of_lt (by omega), byteAt_append_of_lt (by omega), checkMarker]

/-- The length field is bytes 5 and 6 (R62), so what the last byte is does not matter to the check (R126). -/
theorem checkLength_last_irrel (h : 7 ≤ rx.length) (a b : Byte) : checkLength (rx ++ [a]) = checkLength (rx ++ [b]) := by
  simp only [checkLength, wordAt_append_of_lt (i := 5) h, List.length_append, List.length_singleton]

end Sys2Proof.Machine
end

section
/-! SUPPORT. The obligations on the checksum engine. -/

open Sys2Proof Sys2Proof.Machine

/-- Settles O5: the index is an exclusive or of two bytes; the worked example is run. -/
theorem crcStepFormula : Obligations.CrcStepFormula := by
  unfold Obligations.CrcStepFormula
  refine ⟨fun table seed b hlen => ?_, by decide⟩
  have hlt : crcIndex seed b < table.length := hlen ▸ crcIndex_lt seed b
  simp only [← crcIndex_eq_xor]
  exact ⟨hlt, by rw [crcStep_eq_of_lt hlt, BitVec.toNat_xor, toNat_shiftLeft_eight]⟩

/-- Settles O6: the checksum is a left fold, which passes over an append and so over any list of chunks. -/
theorem crcChunks : Obligations.CrcChunks := by
  unfold Obligations.CrcChunks
  exact ⟨fun table s a b => (crc_append table s a b).symm, fun table s chunks => (crc_flatten table s chunks).symm⟩

/-- Settles O7: the word at the end is the checksum exactly when its bytes are the checksum's low byte and high byte. -/
theorem onlyTheAppendedChecksumVerifies : Obligations.OnlyTheAppendedChecksumVerifies := by
  unfold Obligations.OnlyTheAppendedChecksumVerifies
  intro c pkt x y
  rw [crcVerify_append_iff, le16_eq_iff]
  simp [crcAppend]

/-- Settles O8: an accepted reply has ten bytes or more, so the marker and the length stand as they were, and one trailing byte alone
verifies. -/
theorem corruptedTrailingByteRejected : Obligations.CorruptedTrailingByteRejected := by
  unfold Obligations.CorruptedTrailingByteRejected
  intro c rx a b n r hok hne
  obtain ⟨hmark, hlength, hcrc, -, hinstr, -⟩ := acceptStatus_eq_ok_iff.mp hok
  have hlen : 10 ≤ rx.length + 1 := by simpa using ten_le_length_of_checkInstr hinstr
  have hrx : rx ≠ [] := by rintro rfl; simp at hlen
  refine acceptStatus_eq_badCrc ?_ ?_ ?_
  · rwa [checkMarker_append_of_le (by omega)] at hmark ⊢
  · rwa [checkLength_last_irrel (by omega) b a]
  · exact Bool.eq_false_iff.mpr fun hb => hne (crcVerify_last_inj hrx hb hcrc)

end

section
/-! SUPPORT. The stuffer and the unstuffer fed in chunks (R107), and the unstuffer run over the stuffer's output (R105). -/

namespace Sys2Proof.Machine

theorem stuffFrom_append (sm : StuffScan) (a b : List Byte) :
    stuffFrom sm (a ++ b) = ((stuffFrom sm a).1 ++ (stuffFrom (stuffFrom sm a).2 b).1, (stuffFrom (stuffFrom sm a).2 b).2) := by
  induction a generalizing sm with
  | nil => rfl
  | cons c a ih => simp only [List.cons_append, stuffFrom, ih, List.append_assoc]

theorem unstuffFrom_append (um : UnstuffScan) (a b : List Byte) :
    unstuffFrom um (a ++ b) =
      ((unstuffFrom um a).1 ++ (unstuffFrom (unstuffFrom um a).2 b).1, (unstuffFrom (unstuffFrom um a).2 b).2) := by
  induction a generalizing um with
  | nil => rfl
  | cons c a ih => simp only [List.cons_append, unstuffFrom, ih, List.append_assoc]

theorem stuffFrom_singleton (sm : StuffScan) (b : Byte) : stuffFrom sm [b] = stuffByte sm b := by
  simp only [stuffFrom, List.append_nil]

theorem unstuffFrom_singleton (um : UnstuffScan) (b : Byte) : unstuffFrom um [b] = unstuffByte um b := by
  simp only [unstuffFrom, List.append_nil]

/-- On every byte but the last of a marker the stuffer passes the byte on. -/
theorem stuffByte_of_not {sm : StuffScan} {b : Byte} (h : ¬(sm = .two ∧ b = mark2)) :
    stuffByte sm b = ([b], if b = mark1 then sm.bump else .zero) := by
  rw [stuffByte, if_neg h]
  split <;> rfl

theorem mirrored_ne_marker (sm : StuffScan) : sm.mirrored ≠ .marker := by cases sm <;> decide

/-- Before the last byte of a marker the unstuffer keeps step with the stuffer (R101, R103). -/
theorem unstuffByte_mirrored {sm : StuffScan} {b : Byte} (h : ¬(sm = .two ∧ b = mark2)) :
    unstuffByte sm.mirrored b = ([b], (if b = mark1 then sm.bump else .zero : StuffScan).mirrored) := by
  have htwo : ¬(sm.mirrored = .two ∧ b = mark2) := by cases sm <;> simp_all [StuffScan.mirrored]
  rw [unstuffByte, if_neg fun hc => mirrored_ne_marker sm hc.1, if_neg htwo]
  split
  · cases sm <;> rfl
  · rfl

/-- Of what the stuffer emits for one byte the unstuffer makes that byte, and the scan states correspond again (R105). -/
theorem unstuffFrom_stuffByte (sm : StuffScan) (b : Byte) :
    unstuffFrom sm.mirrored (stuffByte sm b).1 = ([b], (stuffByte sm b).2.mirrored) := by
  by_cases h : sm = .two ∧ b = mark2
  · obtain ⟨rfl, rfl⟩ := h
    decide
  · rw [stuffByte_of_not h, unstuffFrom_singleton, unstuffByte_mirrored h]

theorem unstuffFrom_stuffFrom (sm : StuffScan) (x : List Byte) :
    unstuffFrom sm.mirrored (stuffFrom sm x).1 = (x, (stuffFrom sm x).2.mirrored) := by
  induction x generalizing sm with
  | nil => rfl
  | cons b x ih => simp only [stuffFrom, unstuffFrom_append, unstuffFrom_stuffByte, ih, List.singleton_append]

theorem unstuff_stuff (x : List Byte) : unstuff (stuff x) = x := congrArg Prod.fst (unstuffFrom_stuffFrom .zero x)

end Sys2Proof.Machine
end

section
/-! SUPPORT. Match positions (R102), and that every one in the stuffer's output is escaped (R108). -/

namespace Sys2Proof.Machine

theorem mark1_ne_mark2 : mark1 ≠ mark2 := by decide

theorem markerAt_iff {x : List Byte} {i : Nat} :
    markerAt x i = true ↔ x[i]? = some mark1 ∧ x[i + 1]? = some mark1 ∧ x[i + 2]? = some mark2 := by
  simp [markerAt, and_assoc]

/-- A match position has its three bytes within the string. -/
theorem lt_length_of_markerAt {x : List Byte} {i : Nat} (h : markerAt x i = true) : i + 2 < x.length :=
  (List.getElem?_eq_some_iff.mp (markerAt_iff.mp h).2.2).1

/-- Match positions share no byte: the last byte of a match is no FF. -/
theorem markerAt_disjoint {x : List Byte} {i j : Nat} (hi : markerAt x i = true) (hj : markerAt x j = true) (hlt : i < j) :
    i + 3 ≤ j := by
  obtain ⟨-, -, hlast⟩ := markerAt_iff.mp hi
  obtain ⟨hfirst, hsecond, -⟩ := markerAt_iff.mp hj
  have hne : some mark1 ≠ some mark2 := mt Option.some.inj mark1_ne_mark2
  by_contra hclose
  obtain rfl | rfl : j = i + 1 ∨ j = i + 2 := by omega
  · exact hne (hsecond.symm.trans hlast)
  · exact hne (hfirst.symm.trans hlast)

/-- After the bytes FF FF FD the unstuffer awaits an FD, whatever came before (R103). -/
theorem unstuffFrom_marker_snd (um : UnstuffScan) : (unstuffFrom um [mark1, mark1, mark2]).2 = .marker := by cases um <;> decide

theorem take_of_markerAt {y : List Byte} {i : Nat} (h : markerAt y i = true) :
    y.take (i + 3) = y.take i ++ [mark1, mark1, mark2] := by
  obtain ⟨h0, h1, h2⟩ := markerAt_iff.mp h
  simp [List.take_add_one, h0, h1, h2]

theorem unstuffFrom_take_snd_of_markerAt {y : List Byte} {i : Nat} (h : markerAt y i = true) (um : UnstuffScan) :
    (unstuffFrom um (y.take (i + 3))).2 = .marker := by
  rw [take_of_markerAt h, unstuffFrom_append]
  exact unstuffFrom_marker_snd _

/-- Wherever the unstuffer awaits an FD in the stuffer's output, there is one. -/
theorem getElem?_stuffFrom_of_awaited (sm : StuffScan) (x : List Byte) (m : Nat)
    (h : (unstuffFrom sm.mirrored ((stuffFrom sm x).1.take m)).2 = .marker) : (stuffFrom sm x).1[m]? = some mark2 := by
  induction x generalizing sm m with
  | nil => exact absurd h (by simpa [stuffFrom, unstuffFrom] using mirrored_ne_marker sm)
  | cons b x ih =>
    have hlater (k : Nat)
        (hk : (unstuffFrom sm.mirrored ((stuffByte sm b).1 ++ (stuffFrom (stuffByte sm b).2 x).1.take k)).2 = .marker) :
        (stuffFrom (stuffByte sm b).2 x).1[k]? = some mark2 := by
      rw [unstuffFrom_append, unstuffFrom_stuffByte] at hk
      exact ih _ k hk
    by_cases hmark : sm = .two ∧ b = mark2
    · obtain ⟨rfl, rfl⟩ := hmark
      match m with
      | 0 => exact absurd h (mirrored_ne_marker .two)
      | 1 => rfl
      | k + 2 => exact hlater k h
    · rw [stuffByte_of_not hmark] at hlater
      simp only [stuffFrom, stuffByte_of_not hmark] at h ⊢
      match m with
      | 0 => exact absurd h (mirrored_ne_marker _)
      | k + 1 => exact hlater k h

end Sys2Proof.Machine
end

section
/-! SUPPORT. Stuffing as insertion at the match positions (R102), and so how long it makes a string (R106). -/

namespace Sys2Proof.Machine

variable {x : List Byte} {j : Nat}

/-- SM before the byte at offset `j`. -/
def smBefore (x : List Byte) (j : Nat) : StuffScan := (stuffFrom .zero (x.take j)).2

theorem take_succ_of_lt (h : j < x.length) : x.take (j + 1) = x.take j ++ [byteAt x j] := by
  rw [List.take_add_one, byteAt, List.getD_eq_getElem _ _ h, List.getElem?_eq_getElem h, Option.toList_some]

theorem getElem?_eq_some_iff_byteAt (h : j < x.length) {b : Byte} : x[j]? = some b ↔ byteAt x j = b := by
  simp [byteAt, h]

theorem stuffByte_fst (sm : StuffScan) (b : Byte) : (stuffByte sm b).1 = if sm = .two ∧ b = mark2 then [b, mark2] else [b] := by
  unfold stuffByte
  split_ifs <;> rfl

/-- The column of the next SM in the table of R101: after the last byte of a marker, too, it is 0 since that byte is no FF. -/
theorem stuffByte_snd (sm : StuffScan) (b : Byte) : (stuffByte sm b).2 = if b = mark1 then sm.bump else .zero := by
  by_cases h : sm = .two ∧ b = mark2
  · obtain ⟨rfl, rfl⟩ := h
    decide
  · rw [stuffByte_of_not h]

theorem smBefore_succ (h : j < x.length) : smBefore x (j + 1) = if byteAt x j = mark1 then (smBefore x j).bump else .zero := by
  rw [smBefore, take_succ_of_lt h, stuffFrom_append, stuffFrom_singleton, stuffByte_snd, smBefore]

/-- SM is 2 exactly after two bytes FF (R24). -/
theorem smBefore_add_two_eq_two_iff (h : j + 1 < x.length) :
    smBefore x (j + 2) = .two ↔ byteAt x j = mark1 ∧ byteAt x (j + 1) = mark1 := by
  rw [smBefore_succ h, smBefore_succ (Nat.lt_of_succ_lt h)]
  split_ifs with h1 h0
  · cases smBefore x j <;> simp [StuffScan.bump, h0, h1]
  · simp [StuffScan.bump, h0]
  · simp [h1]

/-- The stuffer inserts at offset `j` exactly when a match ends there. -/
theorem inserts_iff (h : j < x.length) : smBefore x j = .two ∧ byteAt x j = mark2 ↔ 2 ≤ j ∧ markerAt x (j - 2) = true := by
  match j with
  | 0 => simp [smBefore, stuffFrom]
  | 1 =>
    have hone : smBefore x 1 ≠ .two := by
      rw [smBefore_succ (Nat.lt_of_succ_lt h)]
      split <;> exact nofun
    simp [hone]
  | i + 2 =>
    have h1 : i + 1 < x.length := Nat.lt_of_succ_lt h
    rw [smBefore_add_two_eq_two_iff h1, Nat.add_sub_cancel, markerAt_iff, getElem?_eq_some_iff_byteAt (Nat.lt_of_succ_lt h1),
      getElem?_eq_some_iff_byteAt h1, getElem?_eq_some_iff_byteAt h, and_assoc]
    exact (and_iff_right (Nat.le_add_left 2 i)).symm

/-- The stuffer's output is what it emits for each byte, in order. -/
theorem stuffFrom_take (x : List Byte) (m : Nat) (h : m ≤ x.length) :
    (stuffFrom .zero (x.take m)).1 = (List.range m).flatMap fun j => (stuffByte (smBefore x j) (byteAt x j)).1 := by
  induction m with
  | zero => rfl
  | succ m ih =>
    rw [take_succ_of_lt h, stuffFrom_append, stuffFrom_singleton, ih (Nat.le_of_succ_le h), List.range_succ, List.flatMap_append,
      List.flatMap_singleton, smBefore]

theorem stuff_eq_flatMap (x : List Byte) : stuff x = (List.range x.length).flatMap fun j =>
    if 2 ≤ j ∧ markerAt x (j - 2) = true then [byteAt x j, mark2] else [byteAt x j] := by
  have hall := stuffFrom_take x x.length le_rfl
  rw [List.take_length] at hall
  refine hall.trans (List.flatMap_congr fun j hj => ?_)
  simp only [stuffByte_fst, inserts_iff (List.mem_range.mp hj)]

/-- A match is counted by where it begins or by where it ends: none begins at the last two offsets, none ends at the first two. -/
theorem countP_markerAt (x : List Byte) : (List.range x.length).countP (markerAt x) =
    (List.range x.length).countP fun j => 2 ≤ j ∧ markerAt x (j - 2) = true := by
  have hend (j : Nat) (hj : x.length ≤ j + 2) : ¬ markerAt x j = true := fun h => by
    have := lt_length_of_markerAt h
    omega
  match hlen : x.length with
  | 0 | 1 => simp [List.range_succ, hend 0 (by omega)]
  | n + 2 =>
    have hlast : ((List.range 2).map (n + ·)).countP (markerAt x) = 0 := List.countP_eq_zero.mpr (by simp [hend, hlen])
    have hfirst : (List.range 2).countP (fun j => 2 ≤ j ∧ markerAt x (j - 2) = true) = 0 := by simp [List.range_succ]
    calc (List.range (n + 2)).countP (markerAt x)
      _ = (List.range n).countP (markerAt x) := by rw [List.range_add, List.countP_append, hlast, Nat.add_zero]
      _ = (List.range (2 + n)).countP fun j => 2 ≤ j ∧ markerAt x (j - 2) = true := by
        rw [List.range_add, List.countP_append, hfirst, List.countP_map, Nat.zero_add]
        exact List.countP_congr (by simp)
      _ = (List.range (n + 2)).countP fun j => 2 ≤ j ∧ markerAt x (j - 2) = true := by rw [Nat.add_comm]

/-- One byte for each element, and one more for each that meets `p`. -/
theorem length_flatMap_ite {α β : Type} (p : α → Prop) [DecidablePred p] (f g : α → β) (l : List α) :
    (l.flatMap fun a => if p a then [f a, g a] else [f a]).length = l.length + l.countP (p ·) := by
  induction l with
  | nil => rfl
  | cons a l ih =>
    rw [List.flatMap_cons, List.length_append, ih, List.countP_cons, List.length_cons]
    by_cases ha : p a
    · simp only [ha, if_true, decide_true, List.length_cons, List.length_nil]
      omega
    · simp only [ha, if_false, decide_false, Bool.false_eq_true, List.length_cons, List.length_nil]
      omega

theorem length_stuff (x : List Byte) : (stuff x).length = x.length + (List.range x.length).countP (markerAt x) := by
  rw [stuff_eq_flatMap, length_flatMap_ite, List.length_range, countP_markerAt]

theorem stuffedBytes_eq_countP (x : List Byte) : stuffedBytes x = (List.range x.length).countP (markerAt x) := by
  rw [stuffedBytes, length_stuff, Nat.add_sub_cancel_left]

/-- FF FF FD repeated is all match positions that R106 allows. -/
theorem stuff_replicate_marker (n : Nat) : stuff (List.replicate n [mark1, mark1, mark2]).flatten =
    (List.replicate n [mark1, mark1, mark2, mark2]).flatten := by
  induction n with
  | zero => rfl
  | succ n ih =>
    have hfirst : stuffFrom .zero [mark1, mark1, mark2] = ([mark1, mark1, mark2, mark2], .zero) := by decide
    rw [List.replicate_succ, List.flatten_cons, stuff, stuffFrom_append, hfirst, List.replicate_succ, List.flatten_cons, ← ih, stuff]

end Sys2Proof.Machine
end

section
/-! SUPPORT. Unstuffing as the scan that removes the last byte of each escape (R104). -/

namespace Sys2Proof.Machine

/-- The bytes FF FF FD of an escape that UM remembers. -/
def UnstuffScan.seen : UnstuffScan → List Byte
  | .zero => []
  | .one => [mark1]
  | .two => [mark1, mark1]
  | .marker => [mark1, mark1, mark2]

theorem dropEscapes_escape (y : List Byte) :
    dropEscapes (mark1 :: mark1 :: mark2 :: mark2 :: y) = mark1 :: mark1 :: mark2 :: dropEscapes y := by
  simp [dropEscapes]

/-- Where no escape begins the scan of R104 passes a byte on. -/
theorem dropEscapes_cons {a : Byte} {y : List Byte} (h : ∀ z, a :: y ≠ mark1 :: mark1 :: mark2 :: mark2 :: z) :
    dropEscapes (a :: y) = a :: dropEscapes y := by
  match y with
  | b :: c :: d :: y =>
    rw [dropEscapes, if_neg]
    rintro ⟨rfl, rfl, rfl, rfl⟩
    exact h y rfl
  | [] | [_] | [_, _] => simp [dropEscapes]

/-- A byte FF begins an escape anew or goes on with one, and what UM no longer remembers is passed on (R103). -/
theorem dropEscapes_seen_append_mark1 (um : UnstuffScan) (y : List Byte) : ∃ passed, um.seen ++ [mark1] = passed ++ um.bump.seen ∧
    dropEscapes (um.seen ++ mark1 :: y) = passed ++ dropEscapes (um.bump.seen ++ y) := by
  cases um with
  | zero | one => exact ⟨[], rfl, rfl⟩
  | two => exact ⟨[mark1], rfl, dropEscapes_cons (by simp [mark1_ne_mark2])⟩
  | marker =>
    exact ⟨[mark1, mark1, mark2], rfl, by
      simp [UnstuffScan.seen, UnstuffScan.bump, dropEscapes_cons, mark1_ne_mark2, mark1_ne_mark2.symm]⟩

/-- A byte that goes on with no escape is passed on, with all that UM remembers (R103). -/
theorem dropEscapes_seen_append_of_not {um : UnstuffScan} {b : Byte} (hdrop : ¬(um = .marker ∧ b = mark2))
    (hmark : ¬(um = .two ∧ b = mark2)) (h1 : b ≠ mark1) (y : List Byte) :
    dropEscapes (um.seen ++ b :: y) = um.seen ++ b :: dropEscapes y := by
  cases um <;> simp_all [UnstuffScan.seen, dropEscapes_cons, mark1_ne_mark2.symm]

/-- The unstuffer's output is the scan's, with the bytes UM remembers before the string (R103, R104). -/
theorem dropEscapes_seen_append (um : UnstuffScan) (y : List Byte) :
    dropEscapes (um.seen ++ y) = um.seen ++ (unstuffFrom um y).1 := by
  induction y generalizing um with
  | nil => cases um <;> rfl
  | cons b y ih =>
    rw [unstuffFrom, unstuffByte]
    split_ifs with hdrop hmark h1
    · obtain ⟨rfl, rfl⟩ := hdrop
      exact (dropEscapes_escape y).trans (congrArg (UnstuffScan.marker.seen ++ ·) (ih .zero))
    · obtain ⟨rfl, rfl⟩ := hmark
      exact ih .marker
    · obtain ⟨passed, hseen, hscan⟩ := dropEscapes_seen_append_mark1 um y
      rw [h1, hscan, ih, ← List.append_assoc, ← hseen, List.append_assoc]
    · rw [dropEscapes_seen_append_of_not hdrop hmark h1]
      exact congrArg (um.seen ++ b :: ·) (ih .zero)

theorem unstuff_eq_dropEscapes (y : List Byte) : unstuff y = dropEscapes y := (dropEscapes_seen_append .zero y).symm

theorem length_dropEscapes (y : List Byte) : (dropEscapes y).length + escapeCount y = y.length := by
  fun_induction dropEscapes y with
  | case1 a b c d y h ih => simp only [escapeCount, if_pos h, List.length_cons]; omega
  | case2 a b c d y h ih => simp only [escapeCount, if_neg h, List.length_cons] at *; omega
  | case3 y h =>
    have hzero : escapeCount y = 0 := by
      unfold escapeCount
      split
      · exact absurd rfl (h _ _ _ _ _)
      · rfl
    rw [hzero, Nat.add_zero]

end Sys2Proof.Machine
end

section
/-! SUPPORT. The obligations on the stuffer and the unstuffer. -/

open Sys2Proof Sys2Proof.Machine

/-- Settles O9: the unstuffer undoes what the stuffer emits for one byte and is again in the corresponding state, so by induction it
does so for the whole string. -/
theorem unstuffStuff : Obligations.UnstuffStuff := by
  unfold Obligations.UnstuffStuff
  exact fun x => ⟨unstuff_stuff x, unstuffFrom_stuffFrom .zero x⟩

/-- Settles O10: after a marker in the output the unstuffer awaits an FD, and there the stuffer has put one. -/
theorem stuffedMarkersAreEscaped : Obligations.StuffedMarkersAreEscaped := by
  unfold Obligations.StuffedMarkersAreEscaped
  exact fun x i h => getElem?_stuffFrom_of_awaited .zero x (i + 3) (unstuffFrom_take_snd_of_markerAt h _)

/-- Settles O11: the output is the input and one byte for each match, and the budget of R106 bounds the matches. -/
theorem stuffExpansion : Obligations.StuffExpansion := by
  unfold Obligations.StuffExpansion
  refine ⟨fun x => ?_, fun n => ?_⟩
  · have hlen := length_stuff x
    have hle := length_stuff_le x
    rw [stuffedBytes]
    omega
  · change stuffedBytes (List.replicate n [mark1, mark1, mark2]).flatten = (List.replicate n [mark1, mark1, mark2]).flatten.length / 3
    rw [stuffedBytes, stuff_replicate_marker]
    simp only [List.length_flatten, List.map_replicate, List.sum_replicate, List.length_cons, List.length_nil, smul_eq_mul]
    omega

/-- Settles O12: each machine carries all it remembers in its scan state. -/
theorem chunkedStuffing : Obligations.ChunkedStuffing := by
  unfold Obligations.ChunkedStuffing
  exact fun a b => ⟨congrArg Prod.fst (stuffFrom_append .zero a b), congrArg Prod.fst (unstuffFrom_append .zero a b),
    fun sm => stuffFrom_append sm a b, fun um => unstuffFrom_append um a b⟩

/-- Settles O13: SM is 2 before an FD exactly where a match ends. -/
theorem stuffIsInsertion : Obligations.StuffIsInsertion := by
  unfold Obligations.StuffIsInsertion
  exact ⟨fun _ _ _ => markerAt_disjoint, stuff_eq_flatMap, stuffedBytes_eq_countP, by decide⟩

/-- Settles O14: UM remembers the part of an escape that the scan has found; FF FF FD is what no stuffing gives. -/
theorem unstuffIsRemoval : Obligations.UnstuffIsRemoval := by
  unfold Obligations.UnstuffIsRemoval
  refine ⟨fun y => ?_, by decide, by decide, unstuff_stuff, [mark1, mark1, mark2], by decide⟩
  have hlen := length_dropEscapes y
  rw [unstuff_eq_dropEscapes]
  exact ⟨rfl, by omega, by omega⟩

end

section
/-! SUPPORT. The packet codec: a raw packet as header and parameters, through the stuffer, the new length and `finalize` (R122 to R124). -/

namespace Sys2Proof.Machine

variable {id code : Byte} {params : List Byte}

theorem escapeCount_stuff (x : List Byte) : escapeCount (stuff x) = stuffedBytes x := by
  have hlen := length_dropEscapes (stuff x)
  rw [← unstuff_eq_dropEscapes, unstuff_stuff] at hlen
  rw [stuffedBytes]
  omega

/-- Where the scan of R104 removes nothing it passes everything on. -/
theorem dropEscapes_of_escapeCount_eq_zero {y : List Byte} (h : escapeCount y = 0) : dropEscapes y = y := by
  fun_induction dropEscapes y with
  | case1 a b c d y hmatch ih => simp [escapeCount, hmatch] at h
  | case2 a b c d y hmatch ih =>
    rw [escapeCount, if_neg hmatch] at h
    rw [ih h]
  | case3 y => rfl

/-- With K = 0 the stuffer passes everything on (R124). -/
theorem stuff_of_stuffedBytes_eq_zero (h : stuffedBytes params = 0) : stuff params = params := by
  have hscan := dropEscapes_of_escapeCount_eq_zero ((escapeCount_stuff params).trans h)
  rw [← unstuff_eq_dropEscapes, unstuff_stuff] at hscan
  exact hscan.symm

theorem length_stuff_eq_add (x : List Byte) : (stuff x).length = x.length + stuffedBytes x := by
  rw [length_stuff, stuffedBytes_eq_countP]

theorem stuffedBytes_le (x : List Byte) : stuffedBytes x ≤ x.length / 3 := by
  have hle := length_stuff_le x
  rw [length_stuff_eq_add] at hle
  omega

/-- One byte and then FF FF FD repeated: `3n + 1` bytes of which the stuffer makes `4n + 1` (R106, R116). -/
theorem stuffedBytes_cons_replicate_marker (n : Nat) :
    (reserved :: (List.replicate n [mark1, mark1, mark2]).flatten).length = 3 * n + 1 ∧
    stuffedBytes (reserved :: (List.replicate n [mark1, mark1, mark2]).flatten) = n := by
  have hstuff : stuff (reserved :: (List.replicate n [mark1, mark1, mark2]).flatten) = _ :=
    congrArg (reserved :: ·) (stuff_replicate_marker n)
  simp only [stuffedBytes, hstuff, List.length_cons, List.length_flatten, List.map_replicate, List.sum_replicate, List.length_nil,
    smul_eq_mul]
  omega

/-- A new length is a header with that length (R62, R155). -/
theorem setLength_rawPacket (id : Byte) (len : Word) (code : Byte) (params : List Byte) (n : Nat) :
    setLength (rawPacket id len code params) n = rawPacket id (BitVec.ofNat 16 n) code params := rfl

@[simp] theorem wordAt_rawPacket (id : Byte) (len : Word) (code : Byte) (params : List Byte) :
    wordAt (rawPacket id len code params) 5 = len := le16_lo8_hi8 len

/-- No match position begins in the header: two of its five bytes are no FF, and the code is neither mark (R123). -/
theorem markerAt_header {lL lH : Byte} (hid : id ≠ mark1) (h1 : code ≠ mark1) (h2 : code ≠ mark2) (x : List Byte) {i : Nat}
    (hi : i < 5) : markerAt (reserved :: id :: lL :: lH :: code :: x) i = false := by
  have h0 : reserved ≠ mark1 := by decide
  interval_cases i <;> simp [markerAt, h0, hid, h1, h2]

/-- The code ends every run of FF in the header (R123). -/
theorem stuffFrom_header_snd {lL lH : Byte} (h1 : code ≠ mark1) :
    (stuffFrom .zero [reserved, id, lL, lH, code]).2 = .zero :=
  (smBefore_succ (x := [reserved, id, lL, lH, code]) (j := 4) (Nat.lt_succ_self 4)).trans (if_neg h1)

section
variable (hid : id ≠ mark1) (h1 : code ≠ mark1) (h2 : code ≠ mark2)
include hid h1 h2

/-- The stuffed region of a raw packet, behind the marker, is the packet with the parameters stuffed (R123). -/
theorem take_append_stuff_rawPacket (len : Word) (params : List Byte) :
    (rawPacket id len code params).take 3 ++ stuff ((rawPacket id len code params).drop 3) =
      rawPacket id len code (stuff params) := by
  rw [drop_three_rawPacket, stuff_header hid h1 h2]
  rfl

/-- K counts what is inserted into the parameters (R123). -/
theorem insertedCount_rawPacket (len : Word) (params : List Byte) :
    insertedCount (rawPacket id len code params) = stuffedBytes params := by
  have hregion : (stuffRegion (rawPacket id len code params)).1 = _ := stuff_header hid h1 h2 _ _ params
  simp only [insertedCount, hregion, drop_three_rawPacket, List.length_cons, stuffedBytes]
  omega

theorem wireLen_rawPacket (len : Word) (params : List Byte) :
    wireLen (rawPacket id len code params) = params.length + 3 + stuffedBytes params := by
  rw [wireLen, insertedCount_rawPacket hid h1 h2, length_rawPacket, Nat.add_sub_cancel_left, lenPost]

/-- What `finalize` makes of a raw packet (R124). -/
theorem finalize_rawPacket (len : Word) (params : List Byte) :
    finalize (rawPacket id len code params) =
      if 65535 < params.length + 3 + stuffedBytes params then none
      else some (rawPacket id (BitVec.ofNat 16 (params.length + 3 + stuffedBytes params)) code (stuff params), stuffedBytes params) := by
  have hwire : (rawPacket id len code params).take 3 ++ (stuffRegion (rawPacket id len code params)).1 = _ :=
    take_append_stuff_rawPacket hid h1 h2 len params
  rw [finalize, wireLen_rawPacket hid h1 h2, insertedCount_rawPacket hid h1 h2, hwire, setLength_rawPacket]

end

end Sys2Proof.Machine
end

section
/-! SUPPORT. The obligations on the packet codec. -/

open Sys2Proof Sys2Proof.Machine

/-- Settles O15: a raw packet is its header and its parameters, and the word at offset 5 is the length the header was made with. -/
theorem builtPackets : Obligations.BuiltPackets := by
  unfold Obligations.BuiltPackets
  refine ⟨fun _ => rfl, fun id addr count => ?_, fun _ _ => rfl, fun id code params => length_rawPacket _ _ _ params,
    fun id code params h => ?_⟩
  · show packetHeader id 7#16 defaultConfig.instrRead ++ readParams addr count = _
    rfl
  · rw [buildRaw, wordAt_rawPacket, lenPre, BitVec.toNat_ofNat]
    omega

/-- Settles O16: the header goes through the stuffer as it is, whatever its length bytes are, so stuffing is of the parameters alone. -/
theorem headerNeverStuffed : Obligations.HeaderNeverStuffed := by
  unfold Obligations.HeaderNeverStuffed
  refine ⟨fun id code params hid h1 h2 => ?_,
    fun c id hwf hid => ⟨ne_mark1_of_validId hid, fun code => Config.code_ne_marks_of_wf hwf⟩⟩
  have hcount := insertedCount_rawPacket hid h1 h2 (BitVec.ofNat 16 (lenPre params.length)) params
  have hwire := take_append_stuff_rawPacket hid h1 h2 (BitVec.ofNat 16 (lenPre params.length)) params
  rw [buildRaw, hcount, hwire]
  refine ⟨fun i hi => markerAt_header hid h1 h2 params hi, stuffFrom_header_snd h1, stuff_header hid h1 h2 _ _ params,
    fun i _ hi => ?_, stuffedBytes_eq_countP params, stuffedBytes_le params, fun len => ?_⟩
  · exact (byteAt_append_of_lt hi _).trans (byteAt_append_of_lt hi _).symm
  · rw [setLength_rawPacket, setLength_rawPacket]
    exact (stuff_header hid h1 h2 _ _ params).symm

/-- Settles O17: `finalize` writes the new length into the header and stuffs the parameters; the worked example is run. -/
theorem finalizedPacket : Obligations.FinalizedPacket := by
  unfold Obligations.FinalizedPacket
  refine ⟨fun id code params hid h1 h2 => ?_, by decide⟩
  rw [buildRaw, finalize_rawPacket hid h1 h2]
  refine ⟨fun hover => if_pos hover, fun hfits => ⟨_, if_neg (Nat.not_lt.mpr hfits), rfl, ?_, fun hzero => ?_⟩⟩
  · rw [length_rawPacket, length_stuff_eq_add, Nat.add_assoc]
  · rw [stuff_of_stuffedBytes_eq_zero hzero, hzero, lenPre, Nat.add_zero]

/-- Settles O18: K is a third of P at most; one byte and then FF FF FD repeated reach the least P that overflows. -/
theorem overflowOnlyAbove : Obligations.OverflowOnlyAbove := by
  unfold Obligations.OverflowOnlyAbove
  refine ⟨fun params h => ?_, ?_⟩
  · have hle := stuffedBytes_le params
    rw [lenPost] at h
    omega
  · obtain ⟨hlen, hk⟩ := stuffedBytes_cons_replicate_marker 16383
    exact ⟨_, hlen, hk, by rw [hlen, hk, lenPost]⟩

end

section
/-! SUPPORT. The checks of a reply, each in the terms of the bytes received (R125 to R130). -/

namespace Sys2Proof.Machine

variable {x rx uns : List Byte} {a b e f i n : Nat}

theorem byteAt_between (h : a + i < e) : byteAt (between x a e) i = byteAt x (a + i) := by
  simp [byteAt, between, h]

theorem between_between (h : a + f ≤ e) : between (between x a e) b f = between x (a + b) (a + f) := by
  rw [between, between, between, List.take_drop, List.take_take, Nat.min_eq_left h, List.drop_drop]

theorem checkMarker_iff (h : 3 ≤ rx.length) : checkMarker rx = true ↔ rx.take 3 = [mark1, mark1, mark2] := by
  match rx, h with
  | _ :: _ :: _ :: _, _ => simp [checkMarker, and_assoc]

theorem checkLength_iff : checkLength rx = true ↔ (wordAt rx 5).toNat + 7 = rx.length := by rw [checkLength, decide_eq_true_iff]

theorem checkFull_iff : checkFull uns n = true ↔ uns.length + 5 = n := by rw [checkFull, decide_eq_true_iff]

theorem checkInstr_iff : checkInstr uns = true ↔ byteAt uns 4 = instrStatus := by rw [checkInstr, beq_iff_eq]

theorem length_replyRegion (h : 5 ≤ rx.length) : (replyRegion rx).length + 5 = rx.length := by
  rw [replyRegion, length_between]
  omega

/-- The shortfall check asks that unstuffing has removed nothing (R128). -/
theorem checkFull_unstuff_iff (h : 5 ≤ rx.length) :
    checkFull (unstuff (replyRegion rx)) rx.length = true ↔ escapeCount (replyRegion rx) = 0 := by
  have hregion := length_replyRegion h
  have hscan := length_dropEscapes (replyRegion rx)
  rw [checkFull_iff, unstuff_eq_dropEscapes]
  omega

theorem unstuff_of_escapeCount_eq_zero (h : escapeCount x = 0) : unstuff x = x :=
  (unstuff_eq_dropEscapes x).trans (dropEscapes_of_escapeCount_eq_zero h)

/-- Offset 4 of the region is packet offset 7 (R129). -/
theorem checkInstr_replyRegion_iff (h : 10 ≤ rx.length) : checkInstr (replyRegion rx) = true ↔ byteAt rx 7 = instrStatus := by
  rw [checkInstr_iff, replyRegion, byteAt_between (by omega)]

/-- Offsets 1, 5 and 6 of the region are packet offsets 4, 8 and 9 (R130). -/
theorem extract_replyRegion (h : rx.length = 11 + n) :
    extract (replyRegion rx) n = { id := byteAt rx 4, err := byteAt rx 8, payload := between rx 9 (9 + n) } := by
  have hpayload : 3 + (6 + n) = 9 + n := by omega
  rw [extract, replyRegion, byteAt_between (by omega), byteAt_between (by omega), between_between (by omega), hpayload]

end Sys2Proof.Machine

open Sys2Proof Sys2Proof.Machine

/-- Settles O19: each of the five checks in the terms of the reply; once nothing was removed, the region is that of the reply itself. -/
theorem acceptanceDecided : Obligations.AcceptanceDecided := by
  unfold Obligations.AcceptanceDecided
  intro c rx n r hlen
  have hfield : (wordAt rx 5).toNat + 7 = rx.length ↔ (wordAt rx 5).toNat = n + 4 := by omega
  rw [acceptStatus_eq_ok_iff, checkMarker_iff (by omega), checkLength_iff, hfield, checkFull_unstuff_iff (by omega)]
  refine and_congr_right fun _ => and_congr_right fun _ => and_congr_right fun _ => and_congr_right fun hnone => ?_
  rw [unstuff_of_escapeCount_eq_zero hnone, extract_replyRegion hlen]
  exact and_congr (checkInstr_replyRegion_iff (by omega)) eq_comm

end

section
/-! SUPPORT. The engine's turn in each phase, and the packets that it builds and accepts (R140, R152, R167 to R175). -/

namespace Sys2Proof.Machine

variable {s : State}

/-- What the engine's step in the present phase makes of the state (R140). -/
def State.phaseStep (s : State) : State :=
  match s.phase with
  | .idle => s
  | .build => s.built s.builtPacket
  | .stuff => s.stuffStep
  | .checksum => s.checksumStep
  | .transmit => s.transmitStep
  | .receive => s.receiveStep
  | .verify => s.verifyStep s.ctx.rxb
  | .parse => s.parseStep

/-- In a command that does not wait the engine's turn is its phase's step (R140). -/
theorem State.engineTurn_eq (hb : s.busy = true) (hx : s.ctx.xpend = false) (hop : s.phase = .build → s.ctx.op ≠ .none) :
    s.engineTurn = .next s.phaseStep := by
  obtain ⟨t, ht⟩ := State.engineTurn_goesOn hop
  have henabled : s.engineEnabled = true := s.engineEnabled_iff.mpr ⟨hb, hx⟩
  rw [ht]
  rcases State.engineTurn_cases ht with ⟨hwait, rfl⟩ | ⟨-, h⟩
  · simp [State.phaseStep, hwait.resolve_left (by simp [henabled])]
  · rcases h with ⟨hp, -, rfl⟩ | ⟨hp, rfl⟩ | ⟨hp, rfl⟩ | ⟨hp, rfl⟩ | ⟨hp, rfl⟩ | ⟨hp, rfl⟩ | ⟨hp, rfl⟩ <;>
      simp [State.phaseStep, hp]

theorem State.length_contextRaw (h : s.paramsFit) : s.contextRaw.length = 8 + s.ctx.p.toNat := by
  obtain ⟨code, -, params, hraw, hlen⟩ := State.contextRaw_eq_buildRaw h
  rw [hraw, ← hlen]
  exact length_rawPacket _ _ _ params

/-- In phase 6 the packet of STATUS_PKT is verified (R132). -/
theorem exec_statusPkt_verify (hb : s.busy = true) (hx : s.ctx.xpend = false) (hp : s.phase = .verify) (id : Byte) (len : Word) :
    exec (.statusPkt id len) s = .next (s.verifyStep (s.receivedPacket id len)) := by
  have henabled : s.engineEnabled = true := s.engineEnabled_iff.mpr ⟨hb, hx⟩
  rw [exec, execStatusPkt, if_neg (by simp [hp]), State.inPhase_enabled henabled hp]

/-- In phase 7 the packet of STATUS_PKT is parsed (R132). -/
theorem exec_statusPkt_parse (hb : s.busy = true) (hx : s.ctx.xpend = false) (hp : s.phase = .parse) (id : Byte) (len : Word) :
    exec (.statusPkt id len) s = .next s.parseStep := by
  have henabled : s.engineEnabled = true := s.engineEnabled_iff.mpr ⟨hb, hx⟩
  rw [exec, execStatusPkt, if_pos hp, State.inPhase_enabled henabled hp]

theorem State.verifyStep_of_badMarker {rx : List Byte} (hm : checkMarker rx = false) : s.verifyStep rx = s.raise .badMarker := by
  simp [State.verifyStep, hm]

theorem State.verifyStep_of_badLength {rx : List Byte} (hm : checkMarker rx = true) (hl : checkLength rx = false) :
    s.verifyStep rx = s.raise .badLength := by
  simp [State.verifyStep, hm, hl]

theorem State.verifyStep_of_badCrc {rx : List Byte} (hm : checkMarker rx = true) (hl : checkLength rx = true)
    (hc : crcVerify s.cfg rx = false) : s.verifyStep rx =
      State.raise { s with ctx := { s.ctx with crc := packetCrc s.cfg rx (rx.length - 2) } } .badCrc := by
  simp [State.verifyStep, hm, hl, hc]

/-- What VERIFY makes of a reply that passes (R169, R170). -/
def State.verified (s : State) (rx : List Byte) : State :=
  { s with
    ctx := { s.ctx with
      crc := wordAt rx (rx.length - 2)
      uns := unstuff (replyRegion rx)
      um := (unstuffFrom .zero (replyRegion rx)).2 }
    phase := .parse }

/-- The checksum that VERIFY leaves in CRC is the one the reply ends in (R95). -/
theorem State.verifyStep_of_passes {rx : List Byte} (hm : checkMarker rx = true) (hl : checkLength rx = true)
    (hc : crcVerify s.cfg rx = true) : s.verifyStep rx = s.verified rx := by
  have hcrc : packetCrc s.cfg rx (rx.length - 2) = wordAt rx (rx.length - 2) := by rwa [crcVerify, beq_iff_eq] at hc
  simp [State.verifyStep, State.verified, hm, hl, hc, hcrc]

theorem State.parseStep_of_shortPayload (hf : checkFull s.ctx.uns s.ctx.expLen.toNat = false) :
    s.parseStep = s.raise .shortPayload := by
  simp [State.parseStep, hf]

theorem State.parseStep_of_badInstr (hf : checkFull s.ctx.uns s.ctx.expLen.toNat = true) (hi : checkInstr s.ctx.uns = false) :
    s.parseStep = s.raise .badInstr := by
  simp [State.parseStep, hf, hi]

theorem State.parseStep_of_passes (hf : checkFull s.ctx.uns s.ctx.expLen.toNat = true) (hi : checkInstr s.ctx.uns = true) :
    s.parseStep = (s.withReply (extract s.ctx.uns s.ctx.n.toNat)).completeOk := by
  simp [State.parseStep, hf, hi]

end Sys2Proof.Machine

open Sys2Proof Sys2Proof.Machine

/-- Settles O25: in phase 1 each instruction packet is its BUILD step, with the header bytes of the instruction. -/
theorem instructionPacketsBuilt : Obligations.InstructionPacketsBuilt := by
  unfold Obligations.InstructionPacketsBuilt
  intro s hb hx hp
  have hbuild (f : State → State) : s.inPhase .build f = f s := State.inPhase_enabled (s.engineEnabled_iff.mpr ⟨hb, hx⟩) hp
  exact ⟨fun id => congrArg Host.Outcome.next (hbuild _), fun id len => congrArg Host.Outcome.next (hbuild _),
    fun id len => congrArg Host.Outcome.next (hbuild _)⟩

/-- Settles O26: phase 1 builds the packet of the operation, whose length field P + 3 does not wrap under R6. -/
theorem buildStep : Obligations.BuildStep := by
  unfold Obligations.BuildStep
  intro s u hm hb hx hp hwf hfit
  refine ⟨?_, State.length_contextRaw hfit, ?_, ?_, ?_⟩
  · rw [step_of_nextMove hm, State.takeMove, State.engineTurn_eq hb hx fun _ => State.op_ne_none_of_paramsFit hfit,
      State.phaseStep, hp, State.builtPacket_eq_contextRaw (maxParams_le_of_wf hwf) hfit]
    rfl
  all_goals
    intro hop
    simp only [State.contextRaw, hop, State.pbufBytes]

/-- Settles O28: the header's length field and the checksum decide VERIFY, the shortfall and the instruction byte decide PARSE. -/
theorem statusPacketCompletes : Obligations.StatusPacketCompletes := by
  unfold Obligations.StatusPacketCompletes
  refine ⟨fun s id len rx hb hx hp hrx => ?_, fun s id len hb hx hp => ?_⟩
  · have hexec := exec_statusPkt_verify hb hx hp id len
    rw [show s.receivedPacket id len = rx from hrx.symm] at hexec
    have hmark : checkMarker rx = true := hrx ▸ rfl
    have hfield : wordAt rx 5 = len := hrx ▸ le16_lo8_hi8 len
    have hlength : checkLength rx = true ↔ len.toNat + 7 = rx.length := hfield ▸ checkLength_iff
    rw [hexec]
    refine ⟨fun hne => ?_, fun heq hc => ?_, fun heq hc => ?_⟩
    · rw [State.verifyStep_of_badLength hmark (Bool.eq_false_iff.mpr (mt hlength.mp hne))]
      rfl
    · exact ⟨_, by rw [State.verifyStep_of_badCrc hmark (hlength.mpr heq) hc]; rfl⟩
    · rw [State.verifyStep_of_passes hmark (hlength.mpr heq) hc]
      rfl
  · rw [exec_statusPkt_parse hb hx hp]
    refine ⟨fun hne => ?_, fun heq hne => ?_, fun heq hi => ?_⟩
    · rw [State.parseStep_of_shortPayload (Bool.eq_false_iff.mpr (mt checkFull_iff.mp hne))]
      rfl
    · rw [State.parseStep_of_badInstr (checkFull_iff.mpr heq) (Bool.eq_false_iff.mpr (mt checkInstr_iff.mp hne))]
      rfl
    · rw [State.parseStep_of_passes (checkFull_iff.mpr heq) (checkInstr_iff.mpr hi)]
      rfl

end

section
/-! SUPPORT. Runs: one step after another, and what two engine turns make of a received reply (R132). -/

namespace Sys2Proof.Machine

variable {s t u : State} {k n : Nat} {c : Config} {rx : List Byte}

theorem coreRun_succ_of_step {M : Host.Core} {a b : M.State} (h : M.step a = .next b) : M.run (k + 1) a = M.run k b := by
  rw [Host.Core.run, h]

theorem run_succ_of_step (h : step s = .next t) : Sys2Proof.core.run (k + 1) s = Sys2Proof.core.run k t :=
  coreRun_succ_of_step (M := Sys2Proof.core) h

theorem run_two_of_steps (h : step s = .next t) (h' : step t = .next u) : Sys2Proof.core.run 2 s = .next u :=
  (run_succ_of_step h).trans ((run_succ_of_step h').trans rfl)

/-- With an empty script a step is the engine's turn (log 2). -/
theorem step_of_script_nil (h : s.script = []) : step s = s.engineTurn := step_of_nextMove (s.nextMove_nil h)

/-- What the frame of the status packet leaves of the host's registers and the transport's. -/
theorem ReplyFrame.keepsHostRegisters (h : ReplyFrame s t) :
    KeepsHostRegisters s t ∧ t.resTstat = s.resTstat ∧ t.issued = s.issued := by
  obtain ⟨ht, -⟩ := h
  rw [ht]
  exact ⟨⟨rfl, rfl, rfl, rfl, rfl, rfl, rfl, rfl, rfl, rfl, rfl, rfl⟩, rfl, rfl⟩

/-- A failed check leaves the results of its cause (R186). -/
theorem resultsAre_raise {cause : Cause} (h : acceptStatus c rx n = .error cause) : resultsAre (s.raise cause) c rx n := by
  unfold resultsAre
  rw [h]
  exact ⟨rfl, rfl, rfl, rfl, rfl, rfl⟩

/-- An accepted reply is in the result registers (R175). -/
theorem resultsAre_withReply {r : Reply} (h : acceptStatus c rx s.ctx.n.toNat = .ok r) (hlen : r.payload.length = s.ctx.n.toNat) :
    resultsAre (s.withReply r).completeOk c rx s.ctx.n.toNat := by
  unfold resultsAre
  rw [h]
  exact ⟨rfl, rfl, rfl, rfl, rfl, rfl, rfl, rfl, rfl, List.take_left' hlen⟩

/-- A region from which nothing was removed holds N bytes of payload (R128, R130). -/
theorem length_payload_of_checkFull {uns : List Byte} (h : checkFull uns (11 + n) = true) : (extract uns n).payload.length = n := by
  rw [checkFull_iff] at h
  rw [extract, length_between]
  omega

/-- VERIFY ends the command with the cause that `accept_status` answers, or the checks it makes have passed (R132, R167 to R170). -/
theorem State.verifyStep_ends_or_passes (s : State) (rx : List Byte) (n : Nat) :
    (∃ ctx cause, acceptStatus s.cfg rx n = .error cause ∧ s.verifyStep rx = State.raise { s with ctx := ctx } cause) ∨
    (checkMarker rx = true ∧ checkLength rx = true ∧ crcVerify s.cfg rx = true) := by
  rcases s.verifyStep_cases rx with ⟨hm, h⟩ | ⟨hm, hl, h⟩ | ⟨hm, hl, hc, h⟩ | ⟨hm, hl, hc, -⟩
  · exact .inl ⟨s.ctx, .badMarker, by simp [acceptStatus, hm], h⟩
  · exact .inl ⟨s.ctx, .badLength, by simp [acceptStatus, hm, hl], h⟩
  · exact .inl ⟨_, .badCrc, acceptStatus_eq_badCrc hm hl hc, h⟩
  · exact .inr ⟨hm, hl, hc⟩

/-- After VERIFY the checks that PARSE makes are the rest of `accept_status` (R132, R171 to R175). -/
theorem State.resultsAre_parseStep (hm : checkMarker rx = true) (hl : checkLength rx = true) (hc : crcVerify s.cfg rx = true)
    (huns : s.ctx.uns = unstuff (replyRegion rx)) (hheld : rx.length = s.ctx.expLen.toNat)
    (hexp : s.ctx.expLen.toNat = 11 + s.ctx.n.toNat) : resultsAre s.parseStep s.cfg rx s.ctx.n.toNat := by
  rcases s.parseStep_cases with ⟨hf, h⟩ | ⟨hf, hi, h⟩ | ⟨hf, hi, h⟩ <;> rw [h]
  · exact resultsAre_raise (by simp [acceptStatus, hm, hl, hc, ← huns, hheld, hf])
  · exact resultsAre_raise (by simp [acceptStatus, hm, hl, hc, ← huns, hheld, hf, hi])
  · refine resultsAre_withReply ?_ (length_payload_of_checkFull (hexp ▸ hf))
    exact acceptStatus_eq_ok_iff.mpr ⟨hm, hl, hc, by rw [← huns, hheld, hf], by rw [← huns, hi], by rw [huns]⟩

end Sys2Proof.Machine

open Sys2Proof Sys2Proof.Machine

/-- Settles O40: VERIFY and PARSE make the checks of `accept_status` in its order, on the same bytes; a command that VERIFY has ended
stays ended in the second turn. -/
theorem acceptanceRefinement : Obligations.AcceptanceRefinement := by
  unfold Obligations.AcceptanceRefinement
  intro s hs hb hx hp hheld hexp
  have hverify : step s = .next (s.verifyStep s.ctx.rxb) := by
    rw [step_of_script_nil hs, State.engineTurn_eq hb hx (by simp [hp]), State.phaseStep, hp]
  rcases s.verifyStep_ends_or_passes s.ctx.rxb s.ctx.n.toNat with ⟨ctx, cause, hacc, h⟩ | ⟨hm, hl, hc⟩
  · have hstays : step (State.raise { s with ctx := ctx } cause) = .next (State.raise { s with ctx := ctx } cause) :=
      (step_of_script_nil (s := State.raise { s with ctx := ctx } cause) hs).trans (State.engineTurn_of_idle rfl)
    exact ⟨_, run_two_of_steps (hverify.trans (congrArg _ h)) hstays, resultsAre_raise hacc,
      ⟨rfl, rfl, rfl, rfl, rfl, rfl, rfl, rfl, rfl, rfl, rfl, rfl⟩, rfl, rfl⟩
  · have hpasses : step s = .next (s.verified s.ctx.rxb) := hverify.trans (congrArg _ (State.verifyStep_of_passes hm hl hc))
    have hparse : step (s.verified s.ctx.rxb) = .next (s.verified s.ctx.rxb).parseStep :=
      (step_of_script_nil (s := s.verified _) hs).trans (State.engineTurn_eq (s := s.verified _) hb hx nofun)
    exact ⟨_, run_two_of_steps hpasses hparse,
      State.resultsAre_parseStep (s := s.verified _) hm hl hc rfl hheld hexp, (replyFrame_parseStep (s.verified _)).keepsHostRegisters⟩

end

section
/-! SUPPORT. A command in progress: what holds of it in every phase, and how each move it waits for takes it on (R148 to R164). -/

namespace Sys2Proof.Machine

variable {s t u : State} {op : Op} {ph : Phase} {waits : Bool} {moves : List Move} {j k : Nat}

theorem coreRun_add {M : Host.Core} {a b : M.State} (h : M.run j a = .next b) : M.run (j + k) a = M.run k b := by
  induction j generalizing a with
  | zero =>
    cases h
    rw [Nat.zero_add]
  | succ j ih =>
    cases hs : M.step a with
    | next a' =>
      rw [coreRun_succ_of_step hs] at h
      rw [Nat.succ_add, coreRun_succ_of_step hs, ih h]
    | fault r | refused r => simp [Host.Core.run, hs] at h

theorem run_add (h : Sys2Proof.core.run j s = .next t) : Sys2Proof.core.run (j + k) s = Sys2Proof.core.run k t :=
  coreRun_add (M := Sys2Proof.core) h

theorem State.nextMove_eq (s : State) : s.nextMove = (s.script.headD .engine, { s with script := s.script.tail }) := by
  cases hs : s.script with
  | nil =>
    show s.nextMove = (.engine, { s with script := [] })
    rw [← hs, s.nextMove_nil hs]
  | cons m rest => exact s.nextMove_cons m rest hs

theorem KeepsHostRegisters.trans (h : KeepsHostRegisters s t) (h' : KeepsHostRegisters t u) : KeepsHostRegisters s u := by
  unfold KeepsHostRegisters at *
  simp_all

/-- EXP_LEN as the request for the reply states it (R148, R162). -/
theorem expectedLen_eq (n : Word) : expectedLen n = BitVec.ofNat 16 (11 + n.toNat) := by
  rw [expectedLen, replyBaseLen, BitVec.ofNat_add, BitVec.ofNat_toNat, BitVec.setWidth_eq]

/-- The wire packet of R60 is the packet with the stuffed parameters, and its checksum. -/
theorem wirePacket_eq_crcAppend (c : Config) (id code : Byte) (params : List Byte) : wirePacket c id code params =
    crcAppend c (rawPacket id (BitVec.ofNat 16 (params.length + 3 + stuffedBytes params)) code (stuff params)) := by
  rw [crcAppend, length_rawPacket]
  rfl

/-- What the accept of a command leaves (R144, R148). -/
def State.commandStart (s : State) (op : Op) : State :=
  match op with
  | .none => s
  | .ping => s.accept.startPing
  | .read => s.accept.startRead
  | .write => s.accept.startWrite

/-- An acceptable command is accepted (R143, R147, R148). -/
theorem State.hostWrite_opcode (h : s.acceptable op) : s.hostWrite 0x00 op.opcode = .next (s.commandStart op) := by
  obtain ⟨hb, hv, hop, hread, hwrite⟩ := h
  cases op with
  | none => exact absurd rfl hop
  | ping =>
    rw [State.hostWrite_command (i := .ping) (rest := []) rfl, exec, execPing, State.onCommand_idle hb]
    simp [State.acceptPing, State.commandStart, hv]
  | read =>
    rw [State.hostWrite_command (i := .read) (rest := []) rfl, exec, execRead, State.onCommand_idle hb]
    simp [State.acceptRead, State.commandStart, hv, hread rfl]
  | write =>
    rw [State.hostWrite_command (i := .write) (rest := []) rfl, exec, execWrite, State.onCommand_idle hb]
    simp [State.acceptWrite, State.commandStart, hv, hwrite rfl]

/-- `u` serves the command `op` that `s` accepts: the host's registers are those of `s`, and the context asks for the packet of the
operands in `s` and for a reply with its N (R148). -/
def Serves (s : State) (op : Op) (u : State) : Prop :=
  u.busy = true ∧ KeepsHostRegisters s u ∧
  u.contextRaw = buildRaw s.devId (s.commandPacket op).1 (s.commandPacket op).2 ∧ u.ctx.n.toNat = s.commandExtra op

theorem State.commandStart_phase (hop : op ≠ .none) :
    (s.commandStart op).phase = .build ∧ (s.commandStart op).ctx.xpend = false ∧ (s.commandStart op).script = s.script := by
  cases op with
  | none => exact absurd rfl hop
  | ping | read | write => exact ⟨rfl, rfl, rfl⟩

theorem serves_commandStart (hwf : s.cfg.wf = true) (hop : op ≠ .none) : Serves s op (s.commandStart op) := by
  have hping : s.cfg.pingReplyExtra < 65536 := by
    simp only [Config.wf, Bool.and_eq_true, decide_eq_true_eq] at hwf
    omega
  cases op with
  | none => exact absurd rfl hop
  | ping =>
    exact ⟨rfl, ⟨rfl, rfl, rfl, rfl, rfl, rfl, rfl, rfl, rfl, rfl, rfl, rfl⟩, rfl, Nat.mod_eq_of_lt hping⟩
  | read | write =>
    exact ⟨rfl, ⟨rfl, rfl, rfl, rfl, rfl, rfl, rfl, rfl, rfl, rfl, rfl, rfl⟩, rfl, rfl⟩

/-- The length field of the command's packet does not overflow (R116). -/
def State.packetFits (s : State) (op : Op) : Prop :=
  (s.commandPacket op).2.length + 3 + stuffedBytes (s.commandPacket op).2 ≤ 65535

/-- The request with which the command's packet is sent (R60, R158). -/
def State.packetRequest (s : State) (op : Op) : Request :=
  .transmit (wirePacket s.cfg s.devId (s.commandPacket op).1 (s.commandPacket op).2) s.txto

/-- PHASE and XPEND after the engine's turn in a phase that builds or asks, where nothing fails (R179). -/
def Phase.afterTurn : Phase → Phase × Bool
  | .build => (.stuff, false)
  | .stuff => (.checksum, false)
  | .checksum => (.transmit, false)
  | .transmit => (.transmit, true)
  | .receive => (.receive, true)
  | p => (p, false)

/-- The command `op` that `s` accepts is in progress in `u`: in phase `ph`, waiting for the transport or not, with `moves` to come. -/
structure InCommand (s : State) (op : Op) (ph : Phase) (waits : Bool) (moves : List Move) (u : State) : Prop where
  inv : Inv u
  phase : u.phase = ph
  xpend : u.ctx.xpend = waits
  script : u.script = moves
  serves : Serves s op u

/-- The accept (R148). -/
theorem inCommand_of_accept (hi : Inv s) (ha : s.acceptable op) (hs : s.script = .hostWrite 0x00 op.opcode :: moves) :
    ∃ t, step s = .next t ∧ InCommand s op .build false moves t := by
  have hstep : step s = .next (State.commandStart { s with script := moves } op) :=
    (step_of_nextMove (s.nextMove_cons _ _ hs)).trans (State.hostWrite_opcode (s := { s with script := moves }) ha)
  obtain ⟨-, -, hop, -⟩ := ha
  obtain ⟨-, -, ⟨hwf, -⟩, -⟩ := id hi
  obtain ⟨hp, hx, hscript⟩ := State.commandStart_phase (s := { s with script := moves }) hop
  exact ⟨_, hstep, stepKeepsInv _ _ hi hstep, hp, hx, hscript, serves_commandStart (s := { s with script := moves }) hwf hop⟩

namespace InCommand

/-- The next move, in the state as it finds the command. -/
theorem next (h : InCommand s op ph waits moves u) {m : Move} (hm : moves.headD .engine = m) :
    ∃ v, InCommand s op ph waits moves.tail v ∧ step u = v.takeMove m := by
  have hnext := u.nextMove_eq
  rw [h.script, hm] at hnext
  exact ⟨{ u with script := moves.tail }, ⟨h.inv, h.phase, h.xpend, rfl, h.serves⟩, step_of_nextMove hnext⟩

theorem of_step (h : InCommand s op ph waits moves u) {ph' : Phase} {waits' : Bool} {moves' : List Move} (hstep : step u = .next t)
    (hp : t.phase = ph') (hx : t.ctx.xpend = waits') (hs : t.script = moves') (hserves : Serves s op t) :
    InCommand s op ph' waits' moves' t := ⟨stepKeepsInv u t h.inv hstep, hp, hx, hs, hserves⟩

theorem busy (h : InCommand s op ph waits moves u) : u.busy = true := by
  obtain ⟨hb, -⟩ := h.serves
  exact hb

/-- The engine's turn, when nothing is waited for (R140). -/
theorem engineTurn (h : InCommand s op ph false moves u) : u.engineTurn = .next u.phaseStep := by
  obtain ⟨-, -, -, -, hctx, -⟩ := h.inv
  obtain ⟨-, -, hfit, -⟩ := hctx h.busy
  exact State.engineTurn_eq h.busy h.xpend fun _ => State.op_ne_none_of_paramsFit hfit

/-- From phase 2 on RAW is the packet of the operands, and `finalize` makes of it what the operands ask for (R124). -/
theorem finalize_raw (h : InCommand s op ph waits moves u) (hp : ph ≠ .idle ∧ ph ≠ .build) (hfits : s.packetFits op) :
    ∃ raw, crcAppend s.cfg raw = wirePacket s.cfg s.devId (s.commandPacket op).1 (s.commandPacket op).2 ∧
      finalize u.ctx.raw = some (raw, stuffedBytes (s.commandPacket op).2) := by
  have hp' : u.phase ≠ .idle ∧ u.phase ≠ .build := h.phase ▸ hp
  obtain ⟨-, -, hpacket, -⟩ := h.serves
  obtain ⟨code, params, hid, h1, h2, hraw, -⟩ := h.inv.contextRaw hp'.1
  have hparts := hraw.symm.trans hpacket
  simp only [buildRaw, rawPacket, packetHeader, List.cons_append, List.nil_append, List.cons.injEq, true_and] at hparts
  obtain ⟨hdev, -, -, hcode, -⟩ := hparts
  refine ⟨_, (wirePacket_eq_crcAppend _ _ _ _).symm, ?_⟩
  rw [show u.ctx.raw = _ from h.inv.rawMade hp', hpacket, buildRaw, ← hdev, ← hcode, finalize_rawPacket hid h1 h2]
  exact if_neg (Nat.not_lt.mpr hfits)

/-- The engine's turn takes a command that builds or asks to its next phase (R152 to R162). -/
theorem phaseStep (h : InCommand s op ph false moves u) (hp : ph ≠ .idle ∧ ph ≠ .verify ∧ ph ≠ .parse) (hfits : s.packetFits op) :
    u.phaseStep.phase = ph.afterTurn.1 ∧ u.phaseStep.ctx.xpend = ph.afterTurn.2 ∧ u.phaseStep.script = u.script ∧
    Serves s op u.phaseStep := by
  rw [State.phaseStep, h.phase]
  obtain ⟨hidle, hverify, hparse⟩ := hp
  cases ph with
  | idle => exact absurd rfl hidle
  | verify => exact absurd rfl hverify
  | parse => exact absurd rfl hparse
  | build | checksum => exact ⟨rfl, h.xpend, rfl, h.serves⟩
  | transmit | receive => exact ⟨h.phase, rfl, rfl, h.serves⟩
  | stuff =>
    obtain ⟨raw, -, hfin⟩ := h.finalize_raw ⟨nofun, nofun⟩ hfits
    rw [State.stuffStep, hfin]
    exact ⟨rfl, h.xpend, rfl, h.serves⟩

theorem step_engine (h : InCommand s op ph false moves u) (hm : moves.headD .engine = .engine)
    (hp : ph ≠ .idle ∧ ph ≠ .verify ∧ ph ≠ .parse) (hfits : s.packetFits op) :
    ∃ t, step u = .next t ∧ InCommand s op ph.afterTurn.1 ph.afterTurn.2 moves.tail t := by
  obtain ⟨v, hv, hstep⟩ := h.next hm
  obtain ⟨hphase, hx, hscript, hserves⟩ := hv.phaseStep hp hfits
  have hturn : step u = .next v.phaseStep := hstep.trans hv.engineTurn
  exact ⟨_, hturn, h.of_step hturn hphase hx (hscript.trans hv.script) hserves⟩

theorem awaits (h : InCommand s op ph true moves u) : u.awaits ph = true := (u.awaits_iff ph).mpr ⟨h.xpend, h.phase⟩

theorem id_eq (h : InCommand s op ph waits moves u) : u.ctx.id = s.devId := by
  obtain ⟨hb, ⟨-, -, hdev, -⟩, -⟩ := h.serves
  obtain ⟨-, -, -, -, hctx, -⟩ := h.inv
  obtain ⟨-, hid, -⟩ := hctx hb
  exact hid.trans hdev

theorem expLen_eq (h : InCommand s op ph waits moves u) : u.ctx.expLen = BitVec.ofNat 16 (11 + s.commandExtra op) := by
  obtain ⟨hb, -, -, hn⟩ := h.serves
  obtain ⟨-, -, -, -, hctx, -⟩ := h.inv
  obtain ⟨-, -, -, -, hexp, -⟩ := hctx hb
  rw [hexp, expectedLen_eq, hn]

theorem toNat_expLen (h : InCommand s op ph waits moves u) (hp : ph ≠ .idle) : u.ctx.expLen.toNat = 11 + u.ctx.n.toNat :=
  (h.inv.expLen (h.phase ▸ hp)).1

/-- While the command is in progress its results are clear (R26). -/
theorem clear (h : InCommand s op ph waits moves u) : u.resTstat = 0#8 ∧ u.resValid = false := by
  obtain ⟨-, -, -, hres, -⟩ := h.inv
  obtain ⟨-, -, ht, hv⟩ := hres.clear h.busy
  exact ⟨ht, hv⟩

/-- From phase 4 on WIRE is the wire packet of the operands (R157). -/
theorem txRequest_eq (h : InCommand s op ph waits moves u) (hp : ph ≠ .idle ∧ ph ≠ .build) (hfits : s.packetFits op)
    (hw : u.wireMade) : u.txRequest = s.packetRequest op := by
  obtain ⟨raw, hraw, hfin⟩ := h.finalize_raw hp hfits
  obtain ⟨-, ⟨hcfg, -, -, -, -, htxto, -⟩, -⟩ := h.serves
  rw [State.wireMade, hfin, Option.map_some, Option.some_inj, hcfg, hraw] at hw
  rw [State.txRequest, ← hw, htxto, State.packetRequest]

/-- In phase 4, once it has asked, the command has made the transmit request of its packet (R158). -/
theorem issued_transmit (h : InCommand s op .transmit true moves u) (hfits : s.packetFits op) : u.issued = [s.packetRequest op] := by
  obtain ⟨-, -, -, -, -, hbuf, hport⟩ := h.inv
  simp only [BufferInv, h.phase] at hbuf
  simp only [PortInv, h.phase, h.xpend, if_true] at hport
  rw [hport, h.txRequest_eq ⟨nofun, nofun⟩ hfits hbuf.2]

/-- In phase 6 the command has also made the receive request (R162). -/
theorem issued_verify (h : InCommand s op .verify false moves u) (hfits : s.packetFits op) :
    u.issued = [s.packetRequest op, .receive (BitVec.ofNat 16 (11 + s.commandExtra op)) s.rxto] := by
  obtain ⟨-, ⟨-, -, -, -, -, -, hrxto, -⟩, -⟩ := h.serves
  obtain ⟨-, -, -, -, -, hbuf, hport⟩ := h.inv
  simp only [BufferInv, h.phase] at hbuf
  obtain ⟨-, hwire, -⟩ := hbuf
  simp only [PortInv, h.phase] at hport
  rw [hport, h.txRequest_eq ⟨nofun, nofun⟩ hfits hwire, State.rxRequest, h.expLen_eq, hrxto]

/-- The transmit request answered with success, for an individual id (R160). -/
theorem step_transmitted (h : InCommand s op .transmit true moves u) (hm : moves.headD .engine = .txAnswer 0#8)
    (hid : s.devId ≠ idBroadcast) :
    ∃ t, step u = .next t ∧ InCommand s op .receive false moves.tail t := by
  obtain ⟨v, hv, hstep⟩ := h.next hm
  have hanswer : step u = .next { v with ctx := { v.ctx with xpend := false }, phase := .receive } := by
    rw [hstep, State.takeMove, State.txAnswer, if_pos hv.awaits, if_pos rfl, State.transmitted, if_neg (hv.id_eq ▸ hid)]
  exact ⟨_, hanswer, h.of_step hanswer rfl rfl hv.script hv.serves⟩

/-- The transmit request answered with success, for the broadcast id (R166). -/
theorem step_broadcast (h : InCommand s op .transmit true moves u) (hm : moves.headD .engine = .txAnswer 0#8)
    (hid : s.devId = idBroadcast) :
    ∃ v, InCommand s op .transmit true moves.tail v ∧ step u = .next v.completeOk := by
  obtain ⟨v, hv, hstep⟩ := h.next hm
  refine ⟨v, hv, ?_⟩
  rw [hstep, State.takeMove, State.txAnswer, if_pos hv.awaits, if_pos rfl, State.transmitted, if_pos (hv.id_eq.trans hid)]

/-- The receive request answered with success (R164). -/
theorem step_received {rx : List Byte} (h : InCommand s op .receive true moves u) (hm : moves.headD .engine = .rxAnswer 0#8 rx)
    (hlen : rx.length = 11 + s.commandExtra op) :
    ∃ t, step u = .next t ∧ InCommand s op .verify false moves.tail t ∧ t.ctx.rxb = rx := by
  obtain ⟨v, hv, hstep⟩ := h.next hm
  obtain ⟨-, -, -, hn⟩ := hv.serves
  have hexp : rx.length = v.ctx.expLen.toNat := by rw [hv.toNat_expLen nofun, hn, hlen]
  have hanswer : step u = .next { v with ctx := { v.ctx with rxb := rx, xpend := false }, phase := .verify } := by
    rw [hstep, State.takeMove, State.rxAnswer, if_pos hv.awaits, if_pos rfl, if_pos hexp]
  exact ⟨_, hanswer, h.of_step hanswer rfl rfl hv.script hv.serves, rfl⟩

end InCommand

/-- The accept and four engine's turns take an acceptable command whose packet fits to its transmit request (R148 to R158). -/
theorem run_to_transmit (hi : Inv s) (ha : s.acceptable op) (hfits : s.packetFits op)
    (hs : s.script = .hostWrite 0x00 op.opcode :: moves) (hm0 : moves.headD .engine = .engine)
    (hm1 : moves.tail.headD .engine = .engine) (hm2 : moves.tail.tail.headD .engine = .engine)
    (hm3 : moves.tail.tail.tail.headD .engine = .engine) :
    ∃ u, Sys2Proof.core.run 5 s = .next u ∧ InCommand s op .transmit true moves.tail.tail.tail.tail u := by
  obtain ⟨u1, hs1, h1⟩ := inCommand_of_accept hi ha hs
  obtain ⟨u2, hs2, h2⟩ := h1.step_engine hm0 (by decide) hfits
  obtain ⟨u3, hs3, h3⟩ := h2.step_engine hm1 (by decide) hfits
  obtain ⟨u4, hs4, h4⟩ := h3.step_engine hm2 (by decide) hfits
  obtain ⟨u5, hs5, h5⟩ := h4.step_engine hm3 (by decide) hfits
  refine ⟨u5, ?_, h5⟩
  rw [run_succ_of_step hs1, run_succ_of_step hs2, run_succ_of_step hs3, run_succ_of_step hs4, run_succ_of_step hs5]
  rfl

end Sys2Proof.Machine

open Sys2Proof Sys2Proof.Machine

/-- Settles O42: each move takes the command one phase on and the invariant says what has been sent; the two turns after the reply are
those of `acceptanceRefinement`. -/
theorem wholeTransaction : Obligations.WholeTransaction := by
  unfold Obligations.WholeTransaction
  intro s op code params rx hi ha hpacket hfits hlen
  have hrequest : s.packetRequest op = .transmit (wirePacket s.cfg s.devId code params) s.txto := by rw [State.packetRequest, hpacket]
  replace hfits : s.packetFits op := by rwa [State.packetFits, hpacket]
  rw [← hrequest]
  refine ⟨fun hid hs => ?_, fun hid hs => ?_⟩ <;> obtain ⟨u, hrun, hu⟩ := run_to_transmit hi ha hfits hs rfl rfl rfl rfl
  · obtain ⟨u6, hs6, h6⟩ := hu.step_transmitted rfl hid
    obtain ⟨u7, hs7, h7⟩ := h6.step_engine rfl (by decide) hfits
    obtain ⟨v, hs8, hv, hrx⟩ := h7.step_received rfl hlen
    obtain ⟨hb, hkeeps, -, hn⟩ := hv.serves
    obtain ⟨hcfg, -⟩ := id hkeeps
    obtain ⟨htstat, -⟩ := hv.clear
    have hexp := hv.toNat_expLen nofun
    obtain ⟨t, hlast, hres, hkeeps', htstat', hissued⟩ :=
      acceptanceRefinement v hv.script hb hv.xpend hv.phase (by rw [hrx, hexp, hlen, hn]) hexp
    rw [hcfg, hrx, hn] at hres
    refine ⟨t, ?_, hissued.trans (hv.issued_verify hfits), hres, htstat'.trans htstat, hkeeps.trans hkeeps'⟩
    rw [run_add (k := 5) hrun, run_succ_of_step hs6, run_succ_of_step hs7, run_succ_of_step hs8, hlast]
  · obtain ⟨v, hv, hlast⟩ := hu.step_broadcast rfl hid
    obtain ⟨-, hkeeps, -⟩ := hv.serves
    obtain ⟨htstat, hvalid⟩ := hv.clear
    refine ⟨v.completeOk, ?_, hv.issued_transmit hfits, rfl, rfl, rfl, rfl, htstat, hvalid, hkeeps⟩
    rw [run_add (k := 1) hrun, run_succ_of_step hlast]
    rfl

end

section
/-! SUPPORT. The engine's turn as a step, and the phases with no packet row (R153 to R163). -/

namespace Sys2Proof.Machine

variable {s u : State}

/-- In a command that does not wait, a step that is the engine's turn is its phase's step (R140); phase 1 is `buildStep`. -/
theorem step_eq_phaseStep (hm : s.nextMove = (.engine, u)) (hb : u.busy = true) (hx : u.ctx.xpend = false)
    (hp : u.phase ≠ .build) : step s = .next u.phaseStep :=
  (step_of_nextMove hm).trans (State.engineTurn_eq hb hx fun h => absurd h hp)

/-- K is counted over the region that is stuffed, header bytes included (R153). -/
theorem insertedCount_eq_stuffedBytes (raw : List Byte) : insertedCount raw = stuffedBytes (raw.drop 3) := rfl

/-- The new length field of a packet of `8 + P` bytes (R154). -/
theorem wireLen_of_length {raw : List Byte} {p : Nat} (h : raw.length = 8 + p) : wireLen raw = p + 3 + stuffedBytes (raw.drop 3) := by
  rw [wireLen, h, Nat.add_sub_cancel_left, lenPost, insertedCount_eq_stuffedBytes]

/-- Marker and stuffed region together are `8 + P + K` bytes (R155). -/
theorem length_take_append_stuff {raw : List Byte} {p : Nat} (h : raw.length = 8 + p) :
    (raw.take 3 ++ stuff (raw.drop 3)).length = 8 + p + stuffedBytes (raw.drop 3) := by
  rw [List.length_append, length_stuff_eq_add, List.length_take, List.length_drop]
  omega

/-- A range up to the end of a packet is what is left of it from its start (R156). -/
theorem between_length (x : List Byte) (a : Nat) : between x a x.length = x.drop a := by rw [between, List.take_length]

end Sys2Proof.Machine

open Sys2Proof Sys2Proof.Machine

/-- Settles O31: `finalize` overflows exactly when `P + 3 + K` does, and otherwise is the marker and the stuffed region with the new
length. -/
theorem stuffPhase : Obligations.StuffPhase := by
  unfold Obligations.StuffPhase
  intro s u hm hb hx hp hlen region k hregion hk
  have hkeq : k = stuffedBytes (u.ctx.raw.drop 3) := by
    rw [hk, hregion, stuffedBytes, List.length_drop]
    omega
  subst hregion hkeq
  have hstep : step s = .next u.stuffStep := by
    rw [step_eq_phaseStep hm hb hx (by simp [hp]), State.phaseStep, hp]
  have hwire := wireLen_of_length hlen
  refine ⟨fun hover => ?_, fun hfits => ?_⟩
  · have hfin : finalize u.ctx.raw = none := if_pos (hwire ▸ hover)
    exact ⟨_, _, by rw [hstep, State.stuffStep, hfin]; rfl⟩
  · have hfin : finalize u.ctx.raw = some (setLength (u.ctx.raw.take 3 ++ stuff (u.ctx.raw.drop 3))
        (u.ctx.p.toNat + 3 + stuffedBytes (u.ctx.raw.drop 3)), stuffedBytes (u.ctx.raw.drop 3)) := by
      rw [← hwire]
      exact if_neg (by omega)
    have hall := length_take_append_stuff hlen
    refine ⟨_, _, by rw [hstep, State.stuffStep, hfin]; rfl, rfl, (length_setLength _ _).trans hall, ?_,
      wordAt_setLength _ _ (by omega), rfl⟩
    exact Nat.mod_eq_of_lt (by omega)

/-- Settles O32: the checksum runs over WIRE to its end, and `crcAppend` puts it there. -/
theorem checksumPhase : Obligations.ChecksumPhase := by
  unfold Obligations.ChecksumPhase
  intro s u hm hb hx hp
  have hsum : packetCrc u.cfg u.ctx.wire u.ctx.wire.length = crc u.cfg.crcTable u.cfg.crcSeed (u.ctx.wire.drop u.cfg.crcFirst) := by
    rw [packetCrc, between_length]
  refine ⟨_, rfl, ?_, List.length_append, fun hlen => ?_⟩
  · rw [step_eq_phaseStep hm hb hx (by simp [hp]), State.phaseStep, hp, ← hsum]
    rfl
  · rw [List.length_append, hlen]
    show _ + 2 = _
    omega

/-- Settles O33: in phases 4 and 5 the engine's turn is the issue step. -/
theorem requestsIssued : Obligations.RequestsIssued := by
  unfold Obligations.RequestsIssued
  intro s u hm hb hx
  refine ⟨fun hp => ?_, fun hp => ?_⟩
  · have hstep : step s = .next u.transmitStep := by rw [step_eq_phaseStep hm hb hx (by simp [hp]), State.phaseStep, hp]
    exact hstep
  · have hstep : step s = .next u.receiveStep := by rw [step_eq_phaseStep hm hb hx (by simp [hp]), State.phaseStep, hp]
    exact hstep

end

section
/-! SUPPORT. The reply at the engine's turn: VERIFY on whatever bytes were received, then PARSE (R167 to R175). -/

namespace Sys2Proof.Machine

variable {s : State} {c : Config} {rx : List Byte}

/-- The checksum of a reply is its last two bytes, the low one first (R95, R127). -/
theorem crcVerify_iff (h : 2 ≤ rx.length) : crcVerify c rx = true ↔
    packetCrc c rx (rx.length - 2) = le16 (byteAt rx (rx.length - 2)) (byteAt rx (rx.length - 1)) := by
  have hlast : rx.length - 2 + 1 = rx.length - 1 := by omega
  rw [crcVerify, beq_iff_eq, wordAt, hlast]

/-- RBUF holds the payload at its front (R175). -/
theorem byteAt_rbuf_withReply {uns : List Byte} {i : Nat} (hlen : 6 + s.ctx.n.toNat ≤ uns.length) (hi : i < s.ctx.n.toNat) :
    byteAt (s.withReply (extract uns s.ctx.n.toNat)).rbuf i = byteAt uns (6 + i) := by
  have hpayload : i < (extract uns s.ctx.n.toNat).payload.length := by
    rw [extract, length_between]
    omega
  rw [State.withReply_rbuf, byteAt_append_of_lt hpayload]
  exact byteAt_between (by omega)

end Sys2Proof.Machine

open Sys2Proof Sys2Proof.Machine

/-- Settles O37: each check of VERIFY in the terms of the bytes received, in the order in which it makes them. -/
theorem verifyPhase : Obligations.VerifyPhase := by
  unfold Obligations.VerifyPhase
  intro s u rx e sum hm hb hx hp hrx he hlen h11 hsum
  have hstep : step s = .next (u.verifyStep rx) := by
    rw [step_eq_phaseStep hm hb hx (by simp [hp]), State.phaseStep, hp, hrx]
  subst hlen
  have hmark := checkMarker_iff (rx := rx) (by omega)
  have hcrc := crcVerify_iff (c := u.cfg) (rx := rx) (by omega)
  rw [show packetCrc u.cfg rx (rx.length - 2) = sum from hsum.symm] at hcrc
  rw [hstep]
  refine ⟨fun h1 => ?_, fun h1 h2 => ?_, fun h1 h2 h3 => ?_, fun h1 h2 h3 => ?_⟩
  · rw [State.verifyStep_of_badMarker (Bool.eq_false_iff.mpr (mt hmark.mp h1))]
    rfl
  · rw [State.verifyStep_of_badLength (hmark.mpr h1) (Bool.eq_false_iff.mpr (mt checkLength_iff.mp h2))]
    rfl
  · rw [State.verifyStep_of_badCrc (hmark.mpr h1) (checkLength_iff.mpr h2) (Bool.eq_false_iff.mpr (mt hcrc.mp h3)), hsum]
    rfl
  · have hpass := hcrc.mpr h3
    rw [State.verifyStep_of_passes (hmark.mpr h1) (checkLength_iff.mpr h2) hpass]
    rw [crcVerify, beq_iff_eq] at hpass
    refine ⟨(unstuffFrom .zero (replyRegion rx)).2, ?_⟩
    rw [State.verified, ← hpass, hsum]
    rfl

/-- Settles O38: the shortfall, then the instruction byte decide PARSE; a region without a shortfall holds the whole payload. -/
theorem parsePhase : Obligations.ParsePhase := by
  unfold Obligations.ParsePhase
  intro s u hm hb hx hp hexp
  have hfull : checkFull u.ctx.uns u.ctx.expLen.toNat = true ↔ u.ctx.uns.length = u.ctx.expLen.toNat - 5 := by
    rw [checkFull_iff]
    omega
  rw [step_eq_phaseStep hm hb hx (by simp [hp]), State.phaseStep, hp]
  refine ⟨fun hne => ?_, fun heq hne => ?_, fun heq hi => ?_⟩
  · exact congrArg _ (State.parseStep_of_shortPayload (Bool.eq_false_iff.mpr (mt hfull.mp hne)))
  · exact congrArg _ (State.parseStep_of_badInstr (hfull.mpr heq) (Bool.eq_false_iff.mpr (mt checkInstr_iff.mp hne)))
  · have hlen : 6 + u.ctx.n.toNat ≤ u.ctx.uns.length := by omega
    refine ⟨_, congrArg _ (State.parseStep_of_passes (hfull.mpr heq) (checkInstr_iff.mpr hi)), ?_,
      fun i hi => byteAt_rbuf_withReply hlen hi⟩
    exact State.resPlen_withReply_le hexp (hfull.mpr heq)

end

section
/-! SUPPORT. A command at an idle engine, ending by ending: what the accept leaves, field by field (R143 to R148). -/

namespace Sys2Proof.Machine

variable {s : State} {op : Op} {p addr n : Word}

/-- A refusal at accept leaves the ending of R144 and R186. -/
theorem State.raise_accept {c : Cause} (h : c.status = .rejected) : s.accept.raise c = refusedAtAccept s c := by
  rw [State.raise, h]
  rfl

/-- An accepted command starts with the context of R148. -/
theorem State.start_accept (s : State) (op : Op) (p addr n : Word) : s.accept.start op p addr n = startedWith s op p addr n := by
  rw [State.start, expectedLen_eq]
  rfl

/-- EXP_LEN of an accepted command does not wrap (R148). -/
theorem toNat_expLen_startedWith (h : n.toNat ≤ 65524) : (startedWith s op p addr n).ctx.expLen.toNat = 11 + n.toNat := by
  rw [← State.start_accept]
  exact toNat_expectedLen h

/-- An idle engine accepts INIT and then decides it (R143, R145). -/
theorem exec_init_idle (hb : s.busy = false) : exec .init s = .next s.accept.bindHandle :=
  congrArg Host.Outcome.next (State.onCommand_idle hb)

theorem exec_ping_idle (hb : s.busy = false) : exec .ping s = .next s.accept.acceptPing :=
  congrArg Host.Outcome.next (State.onCommand_idle hb)

theorem exec_read_idle (hb : s.busy = false) : exec .read s = .next s.accept.acceptRead :=
  congrArg Host.Outcome.next (State.onCommand_idle hb)

theorem exec_write_idle (hb : s.busy = false) : exec .write s = .next s.accept.acceptWrite :=
  congrArg Host.Outcome.next (State.onCommand_idle hb)

theorem State.bindHandle_of_bound (hv : s.hvalid = true) : s.bindHandle = s.raise .rejHandleBound := if_pos hv

theorem State.bindHandle_of_badId (hv : s.hvalid = false) (hid : s.argId = 253#8 ∨ s.argId = 255#8) :
    s.bindHandle = s.raise .rejBadId := by
  simp [State.bindHandle, hv, hid]

theorem State.bindHandle_of_ne (hv : s.hvalid = false) (h253 : s.argId ≠ 253#8) (h255 : s.argId ≠ 255#8) :
    s.bindHandle = State.completeOk { s with devId := s.argId, hvalid := true } := by
  simp [State.bindHandle, hv, h253, h255]

/-- Without a handle the three commands are refused before their operands are looked at (R147). -/
theorem State.accept_of_unbound (hv : s.hvalid = false) : s.acceptPing = s.raise .rejNoHandle ∧
    s.acceptRead = s.raise .rejNoHandle ∧ s.acceptWrite = s.raise .rejNoHandle := by
  simp [State.acceptPing, State.acceptRead, State.acceptWrite, hv]

theorem State.acceptRead_of_overflow (hv : s.hvalid = true) (h : s.cfg.maxRead < s.argCount.toNat) :
    s.acceptRead = s.raise .rejCountOverflow := by
  simp [State.acceptRead, hv, h]

theorem State.acceptWrite_of_overflow (hv : s.hvalid = true) (h : s.cfg.maxParams < s.argPlen.toNat) :
    s.acceptWrite = s.raise .rejPlenOverflow := by
  simp [State.acceptWrite, hv, h]

/-- N of a PING lies within MAX_READ, and so EXP_LEN within its register (R6). -/
theorem pingReplyExtra_le_of_wf {c : Config} (h : c.wf = true) : c.pingReplyExtra ≤ 65524 := by
  simp only [Config.wf, Bool.and_eq_true, decide_eq_true_eq] at h
  omega

theorem decode_unknownOpcode (c : Config) {v : Byte} (h : 0x04 ≤ v.toNat) : decode c .command [v] = .error .unknownOpcode := by
  have hne {k : Byte} (hk : k.toNat < 4) : v ≠ k := by
    rintro rfl
    omega
  rw [decode_command, if_neg (hne (by decide)), if_neg (hne (by decide)), if_neg (hne (by decide)), if_neg (hne (by decide))]

end Sys2Proof.Machine

open Sys2Proof Sys2Proof.Machine

/-- Settles O20: the three ways in which INIT is decided; after reset INIT 1 binds and so INIT 2 finds a bound engine. -/
theorem initCommand : Obligations.InitCommand := by
  unfold Obligations.InitCommand
  have hbinds (s : State) (hb : s.busy = false) (hv : s.hvalid = false) (h253 : s.argId ≠ 253) (h255 : s.argId ≠ 255) :
      exec .init s = .next (State.completeOk { s.accept with devId := s.argId, hvalid := true }) :=
    (exec_init_idle hb).trans (congrArg _ (State.bindHandle_of_ne (s := s.accept) hv h253 h255))
  have hbound (s : State) (hb : s.busy = false) (hv : s.hvalid = true) :
      exec .init s = .next (refusedAtAccept s .rejHandleBound) :=
    (exec_init_idle hb).trans (congrArg _ ((State.bindHandle_of_bound (s := s.accept) hv).trans (State.raise_accept rfl)))
  refine ⟨hbinds, hbound, fun s hb hv hid => ?_, ?_⟩
  · exact (exec_init_idle hb).trans (congrArg _ ((State.bindHandle_of_badId (s := s.accept) hv hid).trans (State.raise_accept rfl)))
  · rintro s rfl
    exact ⟨_, hbinds _ rfl rfl (by decide) (by decide), rfl, rfl, rfl, _, hbound _ rfl rfl, rfl, rfl, rfl⟩

/-- Settles O21: commands whose checks pass start, and under R6 the sum 11 + N fits 16 bits. -/
theorem commandsAccepted : Obligations.CommandsAccepted := by
  unfold Obligations.CommandsAccepted
  intro s hb hv hwf
  obtain ⟨-, hmaxRead⟩ := Config.bounds_of_wf hwf
  have hping : (BitVec.ofNat 16 s.cfg.pingReplyExtra).toNat = s.cfg.pingReplyExtra :=
    Nat.mod_eq_of_lt (Nat.lt_of_le_of_lt (pingReplyExtra_le_of_wf hwf) (by decide))
  have hstarts {op : Op} {i : Instr} (ha : s.acceptable op) (hi : decode s.cfg .command [lo8 op.opcode] = .ok (i, [])) :
      exec i s = .next (s.commandStart op) := (State.hostWrite_command hi).symm.trans (State.hostWrite_opcode ha)
  refine ⟨?_, fun hn => ?_, fun hp => ?_, ?_, fun hn => ?_, ?_⟩
  · exact (hstarts (op := .ping) ⟨hb, hv, nofun, nofun, nofun⟩ rfl).trans (congrArg _ (s.start_accept _ _ _ _))
  · exact (hstarts (op := .read) ⟨hb, hv, nofun, fun _ => hn, nofun⟩ rfl).trans (congrArg _ (s.start_accept _ _ _ _))
  · exact (hstarts (op := .write) ⟨hb, hv, nofun, nofun, fun _ => hp⟩ rfl).trans (congrArg _ (s.start_accept _ _ _ _))
  · rw [toNat_expLen_startedWith (hping.trans_le (pingReplyExtra_le_of_wf hwf)), hping]
  · exact toNat_expLen_startedWith (hn.trans hmaxRead)
  · exact toNat_expLen_startedWith (Nat.zero_le _)

/-- Settles O22: the handle is tested first, then the capacity; each refusal is the ending of R186 after the accept. -/
theorem commandsRejected : Obligations.CommandsRejected := by
  unfold Obligations.CommandsRejected
  refine ⟨fun s hb hv => ?_, fun s hb hv hp => ?_, fun s hb hv hn => ?_⟩
  · obtain ⟨hping, hread, hwrite⟩ := State.accept_of_unbound (s := s.accept) hv
    rw [exec_ping_idle hb, exec_read_idle hb, exec_write_idle hb, hping, hread, hwrite, State.raise_accept rfl]
    exact ⟨rfl, rfl, rfl⟩
  · rw [exec_write_idle hb, State.acceptWrite_of_overflow (s := s.accept) hv hp, State.raise_accept rfl]
  · rw [exec_read_idle hb, State.acceptRead_of_overflow (s := s.accept) hv hn, State.raise_accept rfl]

/-- Settles O23: a CMD value of 0x04 or more decodes to no command, and its ending follows the accept. -/
theorem unknownOpcodeRejected : Obligations.UnknownOpcodeRejected := by
  unfold Obligations.UnknownOpcodeRejected
  intro s u v hm hb hv
  have hwrite : u.hostWrite 0x00 v = u.writeCmd v := by simp [State.hostWrite, hb]
  rw [step_of_nextMove hm, State.takeMove, hwrite, State.writeCmd, decode_unknownOpcode _ hv]
  exact congrArg Host.Outcome.next (State.raise_accept rfl)

end

section
/-! SUPPORT. Where no step is enabled, and the transport's answers (R140, R159 to R166). -/

namespace Sys2Proof.Machine

variable {s u : State}

/-- The engine has no step while BUSY = 0 or XPEND = 1 (R140). -/
theorem State.engineEnabled_eq_false_iff (s : State) : s.engineEnabled = false ↔ s.busy = false ∨ s.ctx.xpend = true := by
  rw [State.engineEnabled, Bool.and_eq_false_iff, Bool.not_eq_false']

theorem State.awaits_eq_false_iff (s : State) (ph : Phase) : s.awaits ph = false ↔ s.ctx.xpend = false ∨ s.phase ≠ ph := by
  rw [State.awaits, Bool.and_eq_false_iff, decide_eq_false_iff_not]

theorem State.engineTurn_of_not_enabled (h : s.engineEnabled = false) : s.engineTurn = .next s := by
  simp [State.engineTurn, h]

theorem State.txAnswer_of_not_awaited (h : s.awaits .transmit = false) (ts : Byte) : s.txAnswer ts = .next s := by
  simp [State.txAnswer, h]

theorem State.rxAnswer_of_not_awaited (h : s.awaits .receive = false) (ts : Byte) (data : List Byte) :
    s.rxAnswer ts data = .next s := by
  simp [State.rxAnswer, h]

theorem State.txAnswer_of_success (ha : s.awaits .transmit = true) : s.txAnswer 0#8 = .next s.transmitted := by
  rw [State.txAnswer, if_pos ha, if_pos rfl]

theorem State.txAnswer_of_failure (ha : s.awaits .transmit = true) {ts : Byte} (hts : ts ≠ 0#8) :
    s.txAnswer ts = .next (State.raise { s with resTstat := ts } .txFail) := by
  rw [State.txAnswer, if_pos ha, if_neg hts]

theorem State.rxAnswer_of_success (ha : s.awaits .receive = true) {data : List Byte} (hlen : data.length = s.ctx.expLen.toNat) :
    s.rxAnswer 0#8 data = .next { s with ctx := { s.ctx with rxb := data, xpend := false }, phase := .verify } := by
  rw [State.rxAnswer, if_pos ha, if_pos rfl, if_pos hlen]

theorem State.rxAnswer_of_failure (ha : s.awaits .receive = true) {ts : Byte} (hts : ts ≠ 0#8) (data : List Byte) :
    s.rxAnswer ts data =
      .next (State.raise { s with resTstat := ts, ctx := { s.ctx with rxb := data.take s.ctx.expLen.toNat } } .rxFail) := by
  rw [State.rxAnswer, if_pos ha, if_neg hts]

end Sys2Proof.Machine

open Sys2Proof Sys2Proof.Machine

/-- Settles O27: outside its phase the step of a packet row is not enabled. -/
theorem packetsOutsidePhase : Obligations.PacketsOutsidePhase := by
  unfold Obligations.PacketsOutsidePhase
  intro s id len
  have hstays {ph : Phase} (h : ¬(s.busy = true ∧ s.ctx.xpend = false ∧ s.phase = ph)) (f : State → State) :
      (.next (s.inPhase ph f) : Result) = .next s :=
    congrArg _ (State.inPhase_otherwise (by rwa [State.engineEnabled_iff, and_assoc]))
  refine ⟨fun h => ⟨hstays h _, hstays h _, hstays h _⟩, fun h => ?_⟩
  rw [exec, execStatusPkt]
  split
  · exact hstays (fun ⟨hb, hx, hp⟩ => h ⟨hb, hx, .inr hp⟩) _
  · exact hstays (fun ⟨hb, hx, hp⟩ => h ⟨hb, hx, .inl hp⟩) _

/-- Settles O34: success goes on or is the broadcast ending, by the id of the context; failure is the common ending. -/
theorem transmitAnswered : Obligations.TransmitAnswered := by
  unfold Obligations.TransmitAnswered
  intro s u tstat hm hp hx
  have ha : u.awaits .transmit = true := (u.awaits_iff _).mpr ⟨hx, hp⟩
  rw [step_of_nextMove hm, State.takeMove]
  refine ⟨?_, ?_, fun hts => State.txAnswer_of_failure ha hts⟩
  · rintro rfl hid
    exact (State.txAnswer_of_success ha).trans (congrArg _ (if_neg hid))
  · rintro rfl hid
    exact (State.txAnswer_of_success ha).trans (congrArg _ (if_pos hid))

/-- Settles O35: success delivers the bytes, failure is the common ending whatever partly arrived. -/
theorem receiveAnswered : Obligations.ReceiveAnswered := by
  unfold Obligations.ReceiveAnswered
  intro s u tstat r hm hp hx
  have ha : u.awaits .receive = true := (u.awaits_iff _).mpr ⟨hx, hp⟩
  rw [step_of_nextMove hm, State.takeMove]
  refine ⟨?_, fun hts => ⟨_, State.rxAnswer_of_failure ha hts r⟩⟩
  rintro rfl hlen
  exact State.rxAnswer_of_success ha hlen

/-- Settles O36: the guards of the engine's turn and of the two answers. -/
theorem waitsForTransport : Obligations.WaitsForTransport := by
  unfold Obligations.WaitsForTransport
  refine ⟨fun s u hm h => ?_, fun s u tstat hm h => ?_, fun s u tstat r hm h => ?_⟩ <;> rw [step_of_nextMove hm]
  · exact State.engineTurn_of_not_enabled (u.engineEnabled_eq_false_iff.mpr h)
  · exact State.txAnswer_of_not_awaited ((u.awaits_eq_false_iff _).mpr h) tstat
  · exact State.rxAnswer_of_not_awaited ((u.awaits_eq_false_iff _).mpr h) tstat r

end

section
/-! SUPPORT. How a command ends: the answers it has waited for, the requests it has made, and the moves it still needs (R176, R203,
R204). -/

namespace Sys2Proof.Machine

variable {s t u : State} {m : Move}

/-- In phases 4 and 5 it is an answer that ends a command, so its request is outstanding (R160, R161, R165). -/
theorem State.xpend_of_ends (hb : u.busy = true) (hp : u.phase = .transmit ∨ u.phase = .receive) (hr : m ≠ .reset)
    (h : u.takeMove m = .next t) (ht : t.busy = false) : u.ctx.xpend = true := by
  by_contra hx
  rw [Bool.not_eq_true] at hx
  have hgoesOn : t.busy = true := by
    cases m with
    | engine =>
      have hturn := State.engineTurn_eq hb hx (by rcases hp with hp | hp <;> simp [hp])
      obtain rfl := Host.Outcome.next.inj (hturn.symm.trans h)
      rcases hp with hp | hp <;> rw [State.phaseStep, hp] <;> exact hb
    | hostWrite n v =>
      obtain rfl := Host.Outcome.next.inj ((if_pos hb).symm.trans h)
      exact hb
    | hostRead n =>
      obtain rfl := Host.Outcome.next.inj h
      exact hb
    | txAnswer ts =>
      obtain rfl := Host.Outcome.next.inj ((State.txAnswer_of_not_pending hx ts).symm.trans h)
      exact hb
    | rxAnswer ts data =>
      obtain rfl := Host.Outcome.next.inj ((State.rxAnswer_of_not_pending hx ts data).symm.trans h)
      exact hb
    | reset => exact absurd rfl hr
  exact Bool.false_ne_true (ht.symm.trans hgoesOn)

/-- The requests that a command which ends in phase `p` has made (R53, R204). -/
def State.requestsBy (s : State) : Phase → List Request
  | .transmit => [s.txRequest]
  | .receive => [s.txRequest, s.rxRequest]
  | .verify => [s.txRequest, s.rxRequest]
  | .parse => [s.txRequest, s.rxRequest]
  | _ => []

theorem PortInv.issued_of_ends (h : PortInv s) (hp : s.phase ≠ .idle)
    (hx : s.phase = .transmit ∨ s.phase = .receive → s.ctx.xpend = true) : s.issued = s.requestsBy s.phase := by
  cases hph : s.phase with
  | idle => exact absurd hph hp
  | transmit | receive => simpa [PortInv, State.requestsBy, hph, hx] using h
  | build | stuff | checksum | verify | parse => simpa [PortInv, State.requestsBy, hph] using h

/-- How an effect can end a command: a failure of its phase, the broadcast ending or an accepted reply (R178, R204). -/
theorem Effect.ending (h : Effect u m t) (hb : u.busy = true) (ht : t.busy = false) (hr : m ≠ .reset) :
    (∃ c ts ctx, c ∈ u.phase.failures ∧ (if c.status = .transport then ts ≠ 0#8 else ts = u.resTstat) ∧
      t = State.raise { u with resTstat := ts, ctx := ctx } c) ∨
    (u.phase = .transmit ∧ u.ctx.id = idBroadcast ∧ t = u.completeOk) ∨
    (u.phase = .parse ∧ t = (u.withReply (extract u.ctx.uns u.ctx.n.toNat)).completeOk) := by
  cases h with
  | fails hc hts => exact .inl ⟨_, _, _, hc, hts, rfl⟩
  | broadcasts _ hp hid => exact .inr (.inl ⟨hp, hid, rfl⟩)
  | parses _ _ hp => exact .inr (.inr ⟨hp, rfl⟩)
  | refuses hb' | binds hb' => exact absurd (hb'.symm.trans hb) Bool.false_ne_true
  | resets => exact absurd rfl hr
  | starts => cases ht
  | _ => exact absurd (ht.symm.trans hb) Bool.false_ne_true

/-- An orderly transport gives the answers a command waits for (R142). -/
theorem State.orderly_of_awaited (h : u.awaited m = true) : u.orderly m = true := by
  cases m with
  | engine | txAnswer => rfl
  | hostWrite | hostRead | reset => cases h
  | rxAnswer ts data =>
    rw [State.awaited, Bool.and_eq_true] at h
    obtain ⟨ha, hdata⟩ := h
    simpa [State.orderly, ha, bne] using hdata

theorem State.remaining_eq_zero_iff (s : State) : s.remaining = 0 ↔ s.phase = .idle := by
  cases hp : s.phase with
  | transmit | receive => simp only [State.remaining, hp]; split <;> simp
  | idle | build | stuff | checksum | verify | parse => simp [State.remaining, hp]

theorem State.remaining_le (s : State) : s.remaining ≤ 9 := by
  cases hp : s.phase with
  | transmit | receive => simp only [State.remaining, hp]; split <;> omega
  | idle | build | stuff | checksum | verify | parse => simp [State.remaining, hp]

/-- The move that a command waits for brings its end nearer: the next phase, the request of this one, or the end (R179, R203). -/
theorem Effect.remaining_lt (h : Effect u m t) (hb : u.busy = true) (hs : SequencerInv u) (ha : u.awaited m = true) :
    t.remaining < u.remaining := by
  have hne : u.phase ≠ .idle := hs.1.mp hb
  have hends {v : State} (hv : v.phase = .idle) : v.remaining < u.remaining := by
    have hzero := v.remaining_eq_zero_iff.mpr hv
    have hpos := mt u.remaining_eq_zero_iff.mp hne
    omega
  cases h with
  | waits hw => rcases hw with hw | hw <;> simp_all
  | reads | hostErr | writes | refuses | binds | starts | resets => cases ha
  | broadcasts | parses | fails => exact hends rfl
  | builds _ _ hp | stuffs _ _ hp | verifies _ _ hp => simp [State.remaining, hp]
  | appends _ hx hp => simp [State.remaining, hp, hx]
  | transmits _ hx hp => simp [State.remaining, State.transmitStep, hp, hx]
  | receives _ hx hp => simp [State.remaining, State.receiveStep, hp, hx]
  | transmitted hx hp | received hx hp => simp [State.remaining, hp, hx]

end Sys2Proof.Machine

open Sys2Proof Sys2Proof.Machine

/-- Settles O43: a receive request is added in phase 5 only, where the context's target is no broadcast id. -/
theorem broadcastNeverReceives : Obligations.BroadcastNeverReceives := by
  unfold Obligations.BroadcastNeverReceives
  intro s t hi hv hid h hs
  obtain ⟨-, -, -, -, hctx, -, hport⟩ := hi
  obtain ⟨l, heff⟩ := exists_effect_of_step h
  rcases heff.issued hport with hkept | ⟨hnone, -⟩ | ⟨-, -, -, -, -, htx⟩ | ⟨hb, hp, -⟩
  · rw [show t.issued = s.issued from hkept]
    exact hs
  · simp [hnone]
  · simp [htx, State.txRequest]
  · obtain ⟨-, hdev, -, -, -, hbc⟩ := hctx hb
    exact absurd (hdev.trans hid) (hbc (.inl hp))

/-- Settles O45: the three kinds of ending; the phase that a failure ends tells its causes and the requests made before it. -/
theorem endingTable : Obligations.EndingTable := by
  unfold Obligations.EndingTable
  intro s t hi hb h hr ht
  rcases hm : s.nextMove with ⟨m, u⟩
  rw [hm] at hr
  have heff := effect_of_step hm h
  obtain ⟨l, rfl⟩ := State.script_of_nextMove hm
  obtain ⟨⟨hbusy, -⟩, -, -, hres, hctx, -, hport⟩ := hi
  obtain ⟨-, -, htstat, hvalid⟩ := hres.clear hb
  obtain ⟨-, -, -, -, -, hbc⟩ := hctx hb
  have hissued := hport.issued_of_ends (hbusy.mp hb) fun hp =>
    State.xpend_of_ends (u := { s with script := l }) hb hp hr ((step_of_nextMove hm).symm.trans h) ht
  rcases heff.ending hb ht hr with ⟨c, ts, ctx, hc, hts, rfl⟩ | ⟨hp, hid, rfl⟩ | ⟨hp, rfl⟩ <;>
    refine ⟨rfl, rfl, ⟨rfl, rfl, rfl, rfl, rfl, rfl, rfl, rfl, rfl, rfl, rfl, rfl⟩, ?_⟩
  · replace hts : if c.status = .transport then ts ≠ 0#8 else ts = 0#8 := htstat ▸ hts
    replace hc : c ∈ s.phase.failures := hc
    cases hp : s.phase <;> simp only [hp, Phase.failures, List.not_mem_nil, List.mem_cons, or_false] at hc <;> rw [hp] at hissued
    case stuff | transmit | receive =>
      subst hc
      exact ⟨rfl, hts, rfl, hissued⟩
    case verify => rcases hc with rfl | rfl | rfl <;> exact ⟨rfl, hts, rfl, hissued⟩
    case parse => rcases hc with rfl | rfl <;> exact ⟨rfl, hts, rfl, hissued⟩
  · rw [show s.phase = .transmit from hp] at hissued
    exact ⟨rfl, htstat, .inl ⟨hvalid, hid, hissued⟩⟩
  · replace hp : s.phase = .parse := hp
    rw [hp] at hissued
    exact ⟨rfl, htstat, .inr ⟨rfl, hbc (.inr (.inr hp)), hissued⟩⟩

/-- Settles O46: the awaited move is an orderly one, so it gives a next state, and each effect it can have brings the end nearer. -/
theorem everyMoveAdvances : Obligations.EveryMoveAdvances := by
  unfold Obligations.EveryMoveAdvances
  intro s u m hi hb hm ha
  obtain ⟨t, ht⟩ := State.takeMove_goesOn (hi.of_nextMove hm) (State.orderly_of_awaited ha)
  have h : step s = .next t := (step_of_nextMove hm).trans ht
  obtain ⟨hseq, -⟩ := id hi
  obtain ⟨⟨hbusy, -⟩, -⟩ := stepKeepsInv s t hi h
  have heff := effect_of_step hm h
  obtain ⟨l, rfl⟩ := State.script_of_nextMove hm
  refine ⟨t, h, heff.remaining_lt hb hseq ha, s.remaining_le, fun hzero => ?_⟩
  rw [← Bool.not_eq_true, hbusy, not_not]
  exact t.remaining_eq_zero_iff.mp hzero

end

section
/-! SUPPORT. A command whose packet does not fit: phase 2 ends it before anything is sent (R116, R154). -/

namespace Sys2Proof.Machine

variable {s t u : State} {op : Op} {ph : Phase} {waits : Bool} {moves : List Move}

theorem State.commandPacket_code_mem (hop : op ≠ .none) :
    (s.commandPacket op).1 ∈ [s.cfg.instrPing, s.cfg.instrRead, s.cfg.instrWrite] := by
  cases op with
  | none => exact absurd rfl hop
  | ping | read | write => simp [State.commandPacket]

/-- `finalize` refuses the packet of an acceptable command when it does not fit (R124). -/
theorem finalize_of_not_packetFits (hi : Inv s) (ha : s.acceptable op) (hover : ¬s.packetFits op) :
    finalize (buildRaw s.devId (s.commandPacket op).1 (s.commandPacket op).2) = none := by
  obtain ⟨-, hv, hop, -⟩ := ha
  obtain ⟨-, hhandle, ⟨hwf, -⟩, -⟩ := hi
  obtain ⟨h1, h2⟩ := Config.code_ne_marks_of_wf hwf (State.commandPacket_code_mem hop)
  obtain ⟨hoverflows, -⟩ := finalizedPacket.1 _ _ (s.commandPacket op).2 (ne_mark1_of_validId (hhandle hv)) h1 h2
  exact hoverflows (Nat.lt_of_not_le hover)

theorem step_raise_of_script_nil (hs : s.script = []) (c : Cause) : step (s.raise c) = .next (s.raise c) :=
  (step_of_script_nil (s := s.raise c) hs).trans (State.engineTurn_of_idle rfl)

namespace InCommand

/-- Phase 1 builds the packet whether it will fit or not (R152). -/
theorem step_build (h : InCommand s op .build false moves u) (hm : moves.headD .engine = .engine) :
    ∃ t, step u = .next t ∧ InCommand s op .stuff false moves.tail t := by
  obtain ⟨v, hv, hstep⟩ := h.next hm
  have hturn : step u = .next (v.built v.builtPacket) := by
    rw [hstep, State.takeMove, hv.engineTurn, State.phaseStep, hv.phase]
  exact ⟨_, hturn, h.of_step hturn rfl hv.xpend hv.script hv.serves⟩

/-- In phase 2 RAW is the packet of the operands (R152). -/
theorem raw_eq (h : InCommand s op .stuff waits moves u) :
    u.ctx.raw = buildRaw s.devId (s.commandPacket op).1 (s.commandPacket op).2 := by
  have hmade : u.rawMade := h.inv.rawMade (by simp [h.phase])
  obtain ⟨-, -, hpacket, -⟩ := h.serves
  exact hmade.trans hpacket

/-- Phase 2 ends a command whose packet is not finalized (R154). -/
theorem step_overflow (h : InCommand s op .stuff false moves u) (hm : moves.headD .engine = .engine)
    (hfin : finalize (buildRaw s.devId (s.commandPacket op).1 (s.commandPacket op).2) = none) :
    ∃ v ctx, InCommand s op .stuff false moves.tail v ∧ step u = .next (State.raise { v with ctx := ctx } .rejLenOverflow) := by
  obtain ⟨v, hv, hstep⟩ := h.next hm
  have hturn : step u = .next v.stuffStep := by rw [hstep, State.takeMove, hv.engineTurn, State.phaseStep, hv.phase]
  rcases v.stuffStep_cases with ⟨-, hends⟩ | ⟨wire, k, hfits, -⟩
  · exact ⟨v, _, hv, hturn.trans (congrArg _ hends)⟩
  · rw [hv.raw_eq, hfin] at hfits
    cases hfits

/-- Until phase 4 nothing has been sent (R158). -/
theorem issued_stuff (h : InCommand s op .stuff waits moves u) : u.issued = [] := by
  obtain ⟨-, -, -, -, -, -, hport⟩ := h.inv
  simpa only [PortInv, h.phase] using hport

end InCommand

end Sys2Proof.Machine

open Sys2Proof Sys2Proof.Machine

/-- Settles O41: a packet that fits goes through the four phases to its request; one that does not ends in phase 2, and the turns left
find an idle engine. -/
theorem sendsTheFinalizedPacket : Obligations.SendsTheFinalizedPacket := by
  unfold Obligations.SendsTheFinalizedPacket
  intro s op code params hi ha hs hpacket
  have hfits : s.packetFits op ↔ params.length + 3 + stuffedBytes params ≤ 65535 := by rw [State.packetFits, hpacket]
  refine ⟨fun hle => ?_, fun hover => ?_⟩
  · obtain ⟨u, hrun, hu⟩ := run_to_transmit hi ha (hfits.mpr hle) hs rfl rfl rfl rfl
    obtain ⟨-, hkeeps, -⟩ := hu.serves
    have hissued := hu.issued_transmit (hfits.mpr hle)
    rw [State.packetRequest, hpacket] at hissued
    exact ⟨u, hrun, hissued, hu.phase, hu.busy, hu.xpend, hkeeps⟩
  · have hfin := finalize_of_not_packetFits hi ha (mt hfits.mp (Nat.not_le.mpr hover))
    obtain ⟨u1, hs1, h1⟩ := inCommand_of_accept hi ha hs
    obtain ⟨u2, hs2, h2⟩ := h1.step_build rfl
    obtain ⟨v, ctx, hv, hs3⟩ := h2.step_overflow rfl hfin
    obtain ⟨-, hkeeps, -⟩ := hv.serves
    have hstays := step_raise_of_script_nil (s := { v with ctx := ctx }) hv.script .rejLenOverflow
    refine ⟨State.raise { v with ctx := ctx } .rejLenOverflow, ?_, hv.issued_stuff, rfl, rfl, rfl, rfl, rfl, hkeeps⟩
    rw [run_succ_of_step hs1, run_succ_of_step hs2, run_succ_of_step hs3, run_two_of_steps hstays hstays]

end
